-- ==== Sys2Proof/Word.lean ====
section
/-! DEFINITION. The words the KW6418 handles: bytes on its serial ports and the slot bus, and 16-bit quantities. -/

namespace Sys2Proof

/-- A byte of the slot bus, the boot port or the local port (00 §0.6.2). -/
abbrev Byte := BitVec 8

/-- A 16-bit quantity: a check, a digest, a fingerprint, a bitmap, a counter, a request number. -/
abbrev Half := BitVec 16

/-- The high byte of a 16-bit quantity: the one sent and stored first (00 §0.6.2). -/
def hiByte (h : Half) : Byte := h.extractLsb' 8 8

/-- The low byte of a 16-bit quantity. -/
def loByte (h : Half) : Byte := h.extractLsb' 0 8

/-- The 16-bit quantity whose bytes are `hi` and `lo`. -/
def joinBytes (hi lo : Byte) : Half := hi ++ lo

end Sys2Proof
end

