-- ==== Sys2Proof/Syntax.lean ====
section
/-! DEFINITION. The commands of the KW6418: one constructor per row of `spec/opcode_table.json`, in the table's order.
The table gives the rows no operands. The operands here are what the event brings from outside the part; their meaning is
in the docstrings and in log entries 6, 8, 11, 16 and 21. -/

namespace Sys2Proof

/-- The two trigger inputs (R103, R161). -/
inductive TrgInput
  | trga
  | trgb
deriving DecidableEq, Repr

/-- The three command codes of the local port (R148): 10h, 20h and 21h. -/
inductive PortCommand
  | clearCounters
  | leave
  | rejoin
deriving DecidableEq, Repr

/-- What DAT does at this station's pin in one window, as the receiver of R29 and R30 can see it. Times are REFCLK periods
since the window's start (DESIGN CHOICE, log entry 8).
- `startLow`: the line is already low when the window opens;
- `toggles`: the times, rising, at which its level changes. -/
structure DatLine where
  startLow : Bool
  toggles : List Nat
deriving DecidableEq, Repr

/-- The commands (one per row of the opcode table). -/
inductive Instr
  /-- RST_ASSERTED (R42, R162): RST goes low and is sampled low `lowSamples` times in succession. -/
  | rstAsserted (lowSamples : Nat)
  /-- RST_NEGATED (R132): RST is sampled high; the straps SID0–SID3 read `straps`. -/
  | rstNegated (straps : BitVec 4)
  /-- GRANULE_READ (R134, R136): the boot port read in progress ends with these bytes on BDI. -/
  | granuleRead (bytes : List Byte)
  /-- LOAD_COMPLETION_SUCCESS (R144), with the levels of TRGA and TRGB at that moment (R161). -/
  | loadCompletionSuccess (trgaHigh trgbHigh : Bool)
  /-- LOAD_COMPLETION_FAILURE (R145). -/
  | loadCompletionFailure
  /-- MARK (R9): FRM falls. -/
  | mark
  /-- EXPIRY (R6, R7): the frame timer reaches L. -/
  | expiry
  /-- FRM_PULL_END (R8): the station's own pull of FRM ends. -/
  | frmPullEnd
  /-- FRM_RISING_EDGE (R14, R16, R19): FRM rises. -/
  | frmRisingEdge
  /-- BUS_FAULT (R15): the mark-low duration reaches 65. -/
  | busFault
  /-- SELF_START (R18): the silence timer reaches 2L with FRM high. -/
  | selfStart
  /-- CLAIM_WINDOW_START (R4, R23): claim window `k` opens. -/
  | claimWindowStart (k : Nat)
  /-- DIGEST_WINDOW_START (R4, R25): digest window `k` opens. -/
  | digestWindowStart (k : Nat)
  /-- MESSAGE_SENT (R25): the last stop bit is read back without mismatch. -/
  | messageSent
  /-- COLLISION (R26): a mismatch at the sample point of bit `bit` of the own window; bits 0 and 1 are the lead-in,
  bit 2 + j is message bit j (R25). -/
  | collision (bit : Nat)
  /-- WINDOW_SETTLE (R31): the open window reaches its settle point; `line` is what DAT did in it. -/
  | windowSettle (line : DatLine)
  /-- CLAIM_PHASE_CLOSE (R4, R47). -/
  | claimPhaseClose
  /-- ALLOCATION_COMPLETE (R5, R81). -/
  | allocationComplete
  /-- DIGEST_PHASE_CLOSE (R4, R91). -/
  | digestPhaseClose
  /-- SLOT_START (R4, R120): slot `k` starts. -/
  | slotStart (k : Nat)
  /-- SLOT_END (R4, R124, R125): slot `k` ends. -/
  | slotEnd (k : Nat)
  /-- PATTERN_EDGE (R122): the time `offset` tu and `fine` tenths after the origin of the running exposure. -/
  | patternEdge (offset fine : Nat)
  /-- TRIGGER_ARRIVAL (R103, R161): the input is sampled low `lowSamples` times and then high `highSamples` times. These samples follow
  those of the command before on the same input (DESIGN CHOICE, log entry 21). -/
  | triggerArrival (input : TrgInput) (lowSamples highSamples : Nat)
  /-- TRANSACTION_START (R147): LSEL falls. -/
  | transactionStart
  /-- TRANSACTION_END (R147): LSEL rises. -/
  | transactionEnd
  /-- READ_STATUS (R150): the code byte 01h is complete. -/
  | readStatus
  /-- READ_EVENT (R151): the code byte 02h is complete. -/
  | readEvent
  /-- READ_PEERS (R152): the code byte 03h is complete. -/
  | readPeers
  /-- READ_TABLE (R98, R152): the code byte 04h is complete. -/
  | readTable
  /-- READ_QUEUE (R153): the code byte 05h is complete. -/
  | readQueue
  /-- READ_COUNTERS (R153): the code byte 06h is complete. -/
  | readCounters
  /-- CLEAR_COUNTERS (R154): LSEL rises and ends a CLEAR COUNTERS transaction. -/
  | clearCounters
  /-- LEAVE (R61): LSEL rises and ends a LEAVE transaction. -/
  | leave
  /-- REJOIN (R64): LSEL rises and ends a REJOIN transaction. -/
  | rejoin
  /-- REJECTED_CODE (R148): a code byte that names no command is complete. -/
  | rejectedCode (code : Byte)
  /-- LEAD_IN_END (R25): the second lead-in bit of an own window ends. -/
  | leadInEnd
  /-- COMMAND_CODE_COMPLETE (R148): a code byte of 10h, 20h or 21h is complete. -/
  | commandCodeComplete (command : PortCommand)
  /-- RESPONSE_BYTE_SHIFTED_OUT (R147): the eighth rising edge of LCLK of a response transfer. -/
  | responseByteShiftedOut
deriving DecidableEq, Repr

end Sys2Proof
end

