-- ==== Sys2Proof/Decode.lean ====
section
/-! DEFINITION. The decoder over the rows of the opcode table that give bits. No row of this block's table gives any: the
commands are events and pin changes, not words. So no word spells a command (log entry 4). The serial formats that do carry
bits (messages, event records, responses, the image) are in `Machine/Messages.lean`, `Machine/Responses.lean` and
`Machine/Image.lean`. -/

namespace Sys2Proof

/-- The command that the low `nbits` bits of `w` spell by the table's bits: none, for every word. -/
def decodeTableWord (_nbits _w : Nat) : Option Instr := none

end Sys2Proof
end

