-- ==== Sys2Proof/Config.lean ====
section
/-! DEFINITION. What the manual leaves open, as constants without a body: a proof can use only their types. -/

namespace Sys2Proof.Config

/-- DESIGN CHOICE (log entry 13): how many tu after claim phase close the Allocator reports completion. R5 and R81 say
only "no later than 255 tu after claim phase close". Applied to `State.draws`, so each allocation has a time of its own. -/
opaque allocationDelay : Nat → Fin 256

/-- DESIGN CHOICE (log entry 14): whether, when a MEMBER becomes ISOLATED, the Membership Unit's ISOLATED record reaches
the event queue before the Demand Queue's CANCELLED records. R156: "Either is taken first." Applied to `State.draws`. -/
opaque isolationRecordFirst : Nat → Bool

/-- DESIGN CHOICE (log entry 36): how many BCLK periods more than 2 BSEL stays negated between two boot port transactions.
R134 says only "at least 2 BCLK periods". Applied to `State.draws`. -/
opaque bootPause : Nat → Nat

end Sys2Proof.Config
end

