-- ==== Sys2Proof/Machine/Checks.lean ====
section
/-! DEFINITION. The two check functions of 00 §0.6.8, bit fields, and bitmaps of stations. -/

namespace Sys2Proof.Machine

/-- The bits of a byte, most significant first: the order in which an unreflected CRC takes them. -/
def bitsMsbFirst (b : Byte) : List Bool := [7, 6, 5, 4, 3, 2, 1, 0].map b.getLsbD

/-- One bit of the CRC-16 with polynomial x^16+x^12+x^5+1. -/
def crc16Bit (crc : Half) (b : Bool) : Half :=
  if crc.msb != b then (crc <<< 1) ^^^ 0x1021#16 else crc <<< 1

/-- The CRC-16 of §0.6.8: initial value FFFFh, nothing reflected, no final inversion. -/
def crc16 (bytes : List Byte) : Half := (bytes.flatMap bitsMsbFirst).foldl crc16Bit 0xFFFF#16

/-- One bit of the CRC-8 with polynomial x^8+x^2+x+1. -/
def crc8Bit (crc : Byte) (b : Bool) : Byte :=
  if crc.msb != b then (crc <<< 1) ^^^ 0x07#8 else crc <<< 1

/-- The CRC-8 of §0.6.8: initial value 00h, nothing reflected, no final inversion. -/
def crc8 (bytes : List Byte) : Byte := (bytes.flatMap bitsMsbFirst).foldl crc8Bit 0x00#8

/-- The number whose bits, least significant first, are these. -/
def natOfBitsLsbFirst : List Bool → Nat
  | [] => 0
  | b :: bs => b.toNat + 2 * natOfBitsLsbFirst bs

/-- The byte that eight levels of a serial input give, the first of them the most significant bit (R134, R147). -/
def byteOfLevels (levels : List Bool) : Byte := BitVec.ofNat 8 (natOfBitsLsbFirst (levels.take 8).reverse)

/-- The `n` bytes that a serial input gives, eight levels each (R134). -/
def bytesOfLevels : Nat → List Bool → List Byte
  | 0, _ => []
  | n + 1, levels => byteOfLevels levels :: bytesOfLevels n (levels.drop 8)

/-- Bits `lo` to `lo + width − 1` of a byte, as a number. -/
def byteField (b : Byte) (lo width : Nat) : Nat := (b.toNat >>> lo) % 2 ^ width

/-- The 16-bit bitmap with bit i set for every station i of the list (R36, R86). -/
def bitmapOf (stations : List Nat) : Half :=
  stations.foldl (fun acc k => acc ||| (1#16 <<< k)) 0#16

/-- The byte at position `i` of a list, 0 beyond its end. -/
def byteAt (bytes : List Byte) (i : Nat) : Byte := bytes.getD i 0

/-- The 16-bit field at positions `i` and `i + 1`, high byte first (§0.6.2). -/
def halfAt (bytes : List Byte) (i : Nat) : Half := joinBytes (byteAt bytes i) (byteAt bytes (i + 1))

/-- The two bytes of a 16-bit quantity, high byte first (§0.6.2). -/
def halfBytes (h : Half) : List Byte := [hiByte h, loByte h]

/-- A number as a byte. -/
def byteOf (n : Nat) : Byte := BitVec.ofNat 8 n

/-- A flag as the byte 01h or 00h. -/
def flagByte (b : Bool) : Byte := if b then 0x01 else 0x00

/-- An optional number as a byte, FFh when absent (09 §9.2). -/
def optByte : Option Nat → Byte
  | some n => byteOf n
  | none => 0xFF

/-- An optional 16-bit item as two bytes, FFFFh when absent (09 §9.2). -/
def optHalf : Option Half → List Byte
  | some h => halfBytes h
  | none => [0xFF, 0xFF]

end Sys2Proof.Machine
end

