-- ==== Sys2Proof/Machine/State.lean ====
section
/-! DEFINITION. The state of the KW6418, block by block as 00 §0.3 lists them, and its value while RST is asserted. -/

namespace Sys2Proof.Machine

/-! ### Frame Timer (01) -/

/-- The five modes of the Frame Timer (R2). -/
inductive TimerMode
  | stopped
  | searching
  | running
  | holding
  | faulted
deriving DecidableEq, Repr

/-- The classification of a mark (R9). -/
inductive MarkClass
  | normal
  | runt
  | aligning
deriving DecidableEq, Repr

/-- The Frame Timer (§1.2). -/
structure FrameTimer where
  /-- the mode (R2) -/
  mode : TimerMode
  /-- the frame timer value: tu since the mark, 0 to L (R2) -/
  value : Nat
  /-- REFCLK periods counted in the present tu, below D (R1) -/
  prescaler : Nat
  /-- the frame number (R13) -/
  frame : Byte
  /-- the mark-low duration, 0–65 (R14) -/
  markLow : Nat
  /-- the silence timer, 0 to 2L (R17) -/
  silence : Nat
  /-- the station is pulling FRM (R8) -/
  ownPull : Bool
  /-- FRM is low as the part sees it -/
  frmLow : Bool
  /-- how far the frame has come: one more than the place of the last phase event emitted in it, in the order of R4 and
  R5; 0 when none has been. The slot in progress of R10 is read from it. -/
  emitted : Nat
  /-- the places of the phase events of the ended frame that came with the mark and that the mark was taken before: they are
  not emitted (R12, log entry 33). Empty once time passes or FRM rises. -/
  lapsed : List Nat
deriving DecidableEq, Repr

/-! ### Bus Interface (02) -/

/-- The two kinds of window (R3). -/
inductive WindowKind
  | claim
  | digest
deriving DecidableEq, Repr

/-- The outcome of the station's own transmission (R28). -/
inductive TxOutcome
  | none
  | sent
  | collided
deriving DecidableEq, Repr

/-- The eight own station states (R40). -/
inductive StationState
  | loading
  | loadFailed
  | listening
  | joining
  | member
  | leaving
  | offline
  | isolated
deriving DecidableEq, Repr

/-- The transmitter (§2.3, R25). -/
inductive Transmitter
  /-- IDLE -/
  | idle
  /-- LEAD-IN of an own window, with the station state at the window start, after its reaction (R23), and the frame number
  and heard map then in force: nothing taken in the lead-in changes the announcement (R24) -/
  | leadIn (kind : WindowKind) (calledIn : StationState) (frame : Byte) (heardMap : Half)
  /-- SENDING a message whose bytes are fixed (R24) -/
  | sending (kind : WindowKind) (bytes : List Byte)
  /-- DONE with the outcome of that window (R25, R26) -/
  | done (kind : WindowKind) (outcome : TxOutcome)
deriving DecidableEq, Repr

/-- A claim (R37): `count` exposures of class `cls`. -/
structure Claim where
  cls : Nat
  priority : Nat
  span : Nat
  count : Nat
deriving DecidableEq, Repr

/-- The fields of an announcement (R36). -/
structure Announcement where
  station : Nat
  group : Nat
  frame : Byte
  joining : Bool
  leaving : Bool
  held : Bool
  fingerprint : Half
  heardMap : Half
  claims : List Claim
deriving DecidableEq, Repr

/-- The fields of a digest message (R38). -/
structure DigestMessage where
  station : Nat
  frame : Byte
  digest : Half
deriving DecidableEq, Repr

/-- The decoded fields of a message (R31). -/
inductive Message
  | announcement (a : Announcement)
  | digest (d : DigestMessage)
deriving DecidableEq, Repr

/-- Whether an intact message carries the receiver's frame number (R34). -/
inductive FrameStep
  | inStep
  | outOfStep
deriving DecidableEq, Repr

/-- A window record (R31); `empty` is the state with no outcome. -/
inductive WindowRecord
  | empty
  | silent
  | damaged
  | foreign
  | intact (step : FrameStep) (message : Message)
  | own (outcome : TxOutcome)
deriving DecidableEq, Repr

/-- The Bus Interface (02). -/
structure BusInterface where
  tx : Transmitter
  /-- the window the receiver is in: from its start to its settle point (R29, R31) -/
  window : Option (WindowKind × Nat)
  /-- the claim window records, by window number (R31) -/
  claimRecords : List WindowRecord
  /-- the digest window records, by window number (R31) -/
  digestRecords : List WindowRecord
deriving DecidableEq, Repr

/-! ### Membership Unit (03) -/

/-- The state of a peer entry with the count that JOINING and MISSING carry (R43, R45). -/
inductive PeerState
  | absent
  | joining1
  | joining2
  | member
  | missing1
  | missing2
deriving DecidableEq, Repr

/-- A peer entry (R43). -/
structure PeerEntry where
  state : PeerState
  group : Nat
  heard : Bool
deriving DecidableEq, Repr

/-- The observation sub-state of LISTENING (R48). -/
inductive Observation
  | unaligned
  | observing
deriving DecidableEq, Repr

/-- Why a station is isolated (R58, R59). -/
inductive IsolationReason
  | duplicate
  | config
deriving DecidableEq, Repr

/-- The Membership Unit (03). -/
structure Membership where
  /-- the own station state (R40) -/
  station : StationState
  /-- the peer table, by station number (R43) -/
  peers : List PeerEntry
  /-- the heard map of the previous frame (R44) -/
  heardMap : Half
  /-- the joining-sent count, 0–3 (R53) -/
  joiningSent : Nat
  /-- the joining-frame count, 0–16 (R55) -/
  joiningFrames : Nat
  /-- the collision streak, 0–2 (R58) -/
  streak : Nat
  /-- the foreign-only frame count, 0–4 (R59) -/
  foreignOnly : Nat
  /-- leave-pending (R61) -/
  leavePending : Bool
  /-- the observation sub-state (R48) -/
  observation : Observation
  /-- the listening reference (R49) -/
  listenRef : Option Byte
  /-- the reason kept for READ STATUS (R60) -/
  isolation : Option IsolationReason
deriving DecidableEq, Repr

/-! ### Allocator (04) -/

/-- A filled cell of the reservation table (R66). -/
structure Cell where
  station : Nat
  cls : Nat
  part : Nat
deriving DecidableEq, Repr

/-- A reservation table: slot records, each a list of channel cells (R66). -/
abbrev Table := List (List (Option Cell))

/-- An entry of the claim list (R74). -/
structure ClaimEntry where
  station : Nat
  group : Nat
  cls : Nat
  priority : Nat
  span : Nat
  count : Nat
  position : Nat
  rank : Nat
  granted : Nat
  unmet : Nat
deriving DecidableEq, Repr

/-- The table status (R68). -/
inductive TableStatus
  | none
  | building
  | complete
deriving DecidableEq, Repr

/-- The Allocator (04). -/
structure Allocator where
  status : TableStatus
  table : Table
  claimList : List ClaimEntry
  /-- the unmet numbers of the station's own entries (R80) -/
  unmetTallies : List Nat
  /-- the frame number handed over at claim phase close (R70) -/
  frame : Byte
  /-- the member view handed over at claim phase close (R46), stations ascending -/
  view : List Nat
deriving DecidableEq, Repr

/-! ### Agreement Unit (05) -/

/-- The verdict of a frame (R85). -/
inductive Verdict
  | none
  | expose
  | holdoff
deriving DecidableEq, Repr

/-- An entry of the received digest store (R85, R89). -/
structure StoredDigest where
  digest : Half
  step : FrameStep
deriving DecidableEq, Repr

/-- The published table record (R97). -/
structure PublishedTable where
  frame : Option Byte
  verdict : Verdict
  bitmap : Option Half
  digest : Option Half
  cells : Option Table
deriving DecidableEq, Repr

/-- The Agreement Unit (R85). -/
structure Agreement where
  ownDigest : Option Half
  store : List (Option StoredDigest)
  /-- the adoption notice: the reference sender (R90) -/
  adoption : Option Nat
  verdict : Verdict
  previous : Verdict
  published : PublishedTable
deriving DecidableEq, Repr

/-! ### Demand Queue (06) -/

/-- The source of a class's demand (R99). -/
inductive Source
  | none
  | trga
  | trgb
  | periodic
deriving DecidableEq, Repr

/-- A class record (R99). -/
structure ClassRecord where
  source : Source
  pattern : Nat
  priority : Nat
  limit : Nat
  maxAge : Nat
deriving DecidableEq, Repr

/-- A demand entry (R101); PENDING while `bound` is absent, BOUND to the slot and channel it names otherwise. -/
structure DemandEntry where
  request : Half
  cls : Nat
  age : Nat
  bound : Option (Nat × Nat)
deriving DecidableEq, Repr

/-- An item of the exposure list (R102); `running` tells RUNNING from SCHEDULED. -/
structure ExposureItem where
  slot : Nat
  channel : Nat
  cls : Nat
  span : Nat
  request : Option Half
  running : Bool
deriving DecidableEq, Repr

/-- The glitch filter of a trigger input (R161).
- `high`: the level accepted;
- `run`: how many samples in a row, up to the last one, have shown the other level. At D of them that level is accepted. -/
structure TrgFilter where
  high : Bool
  run : Nat
deriving DecidableEq, Repr

/-- The Demand Queue (R101, R102) with the filters of its trigger inputs (R161). -/
structure DemandQueue where
  entries : List DemandEntry
  nextRequest : Half
  claimRecord : List Claim
  exposures : List ExposureItem
  trga : TrgFilter
  trgb : TrgFilter
deriving DecidableEq, Repr

/-! ### Pattern Engine (07) -/

/-- A pattern record (R115). -/
structure PatternRecord where
  span : Nat
  first : Nat
  count : Nat
deriving DecidableEq, Repr

/-- An edge (R115). -/
structure Edge where
  offset : Nat
  fine : Nat
  output : Nat
  level : Bool
deriving DecidableEq, Repr

/-- The running-pattern record (R120).
- `origin` is the frame timer value of the slot start;
- `next` is the place in the pattern of its next edge, the pattern's edge count when none remains;
- `second` tells SECOND SLOT from FIRST SLOT. -/
structure RunningPattern where
  slot : Nat
  channel : Nat
  cls : Nat
  pattern : Nat
  span : Nat
  origin : Nat
  next : Nat
  second : Bool
deriving DecidableEq, Repr

/-- The modes of the Pattern Engine (R118). -/
inductive EngineMode
  | unloaded
  | idle
  | running (r : RunningPattern)
deriving DecidableEq, Repr

/-- The Pattern Engine (07).
- `levels`: bit i is the current logical level of DRVi (R117);
- `justEnded`: an exposure has ended at this very instant;
- `gap`: EXPOSING and CHSEL still show the REFCLK period of rest between two exposures (R126). -/
structure PatternEngine where
  mode : EngineMode
  levels : Byte
  justEnded : Bool
  gap : Bool
deriving DecidableEq, Repr

/-! ### Image Loader (08) -/

/-- The load state (R133). -/
inductive LoadState
  | idle
  | headers
  | merging
  | checking
  | loaded
  | failed
deriving DecidableEq, Repr

/-- The load result (R133). -/
inductive LoadResult
  | none
  | success
  | failure
deriving DecidableEq, Repr

/-- The load reason (R133), with the granule index that SERIAL and GRANULE carry. -/
inductive LoadReason
  | none
  | noHeader
  | badFormat
  | param
  | serial (index : Nat)
  | granule (index : Nat)
  | stationRange
  | cls
  | pattern
deriving DecidableEq, Repr

/-- A header as read (R133): its 15 data bytes and whether its check passed (R136). The bytes of a header whose check failed
are kept beside that outcome and nothing reads them (DESIGN CHOICE, log entry 34). -/
structure HeaderRead where
  data : List Byte
  passes : Bool
deriving DecidableEq, Repr

/-- A granule of the merged image (R133): its 15 data bytes and the copy it came from. -/
structure MergedGranule where
  data : List Byte
  copy : Nat
deriving DecidableEq, Repr

/-- The Image Loader (R133).
- `chosen`, `fallback`: the primary and the fallback copy (R137);
- `granules`: the merged image, granule 0 first;
- `boot`: the copy and granule of the boot port read in progress, or of the one that comes next (R135);
- `bootPause`: the REFCLK periods that BSEL stays negated before that read begins (R134);
- `bootClock`: the REFCLK periods of that read that have passed, 0–640 (R134);
- `failing`: the reason of a test that has failed and whose load completion is due (R145, log entry 19). -/
structure ImageLoader where
  state : LoadState
  header0 : Option HeaderRead
  header1 : Option HeaderRead
  chosen : Option Nat
  fallback : Option Nat
  granules : List MergedGranule
  repaired : Nat
  result : LoadResult
  reason : LoadReason
  boot : Option (Nat × Nat)
  bootPause : Nat
  bootClock : Nat
  failing : Option LoadReason
deriving DecidableEq, Repr

/-- The configuration that the blocks take at load completion (R144): the shared section and the station section (R141),
the class records (R142), the pattern store (R115, R143) and the fingerprint. It is fixed until RST. -/
structure Settings where
  /-- N -/
  windows : Nat
  /-- S -/
  slots : Nat
  /-- C -/
  channels : Nat
  /-- B -/
  bitTu : Nat
  /-- Ls -/
  slotLen : Nat
  /-- G -/
  gap : Nat
  /-- T -/
  tail : Nat
  /-- D -/
  divider : Nat
  /-- the exclusion group -/
  group : Nat
  classes : List ClassRecord
  enableMask : Byte
  idleMask : Byte
  invertMask : Byte
  patterns : List PatternRecord
  edges : List Edge
  fingerprint : Half
deriving DecidableEq, Repr

/-! ### Event Queue and Counters (09) -/

/-- The kinds of event record (R157). -/
inductive EventKind
  | exposed
  | aborted
  | expired
  | cancelled
  | overrun
  | holdoff
  | runt
  | busFault
  | seqAdopted
  | collision
  | peerJoined
  | peerLeft
  | peerLost
  | admitted
  | joinTimeout
  | left
  | isolated
deriving DecidableEq, Repr

/-- An event record (R157); a field that is `none` is absent. -/
structure EventRecord where
  kind : EventKind
  frame : Byte
  peer : Option Nat := none
  cls : Option Nat := none
  request : Option Half := none
  slot : Option Nat := none
  channel : Option Nat := none
deriving DecidableEq, Repr

/-- The Event Queue (R155). `discarded`: a record has been discarded since the last READ STATUS snapshot (R150). -/
structure EventQueue where
  records : List EventRecord
  overflow : Bool
  discarded : Bool
deriving DecidableEq, Repr

/-- The thirteen counters (R158), in READ COUNTERS order. -/
structure Counters where
  damaged : Half
  foreign : Half
  mismatches : Half
  collisions : Half
  runtMarks : Half
  busFaults : Half
  holdoffs : Half
  exposures : Half
  aborts : Half
  expiries : Half
  overruns : Half
  refusedTriggers : Half
  unmetGrants : Half
deriving DecidableEq, Repr

/-! ### Local Port (09) -/

/-- The result of a command (R149). -/
inductive CommandResult
  | none
  | accepted
  | refused
deriving DecidableEq, Repr

/-- What a transaction is, once its code byte is complete (R148). `event present`: the snapshot was a record, not the
*none* record (R151). -/
inductive ResponseKind
  | status
  | event (present : Bool)
  | peers
  | table
  | queue
  | counters
  | command (c : PortCommand)
  | rejected
deriving DecidableEq, Repr

/-- The response of a transaction, fixed at code completion (R148), and how many of its transfers have been shifted out. -/
structure Response where
  kind : ResponseKind
  bytes : List Byte
  shifted : Nat
deriving DecidableEq, Repr

/-- What a code byte names (R148). -/
inductive PortCode
  | readStatus
  | readEvent
  | readPeers
  | readTable
  | readQueue
  | readCounters
  | command (c : PortCommand)
  | other
deriving DecidableEq, Repr

/-- The transaction state (R147). -/
inductive PortState
  | idle
  | code
  | responding (r : Response)
  | abandoned
deriving DecidableEq, Repr

/-- The Local Port (R147) with its last-command register (R149). -/
structure LocalPort where
  state : PortState
  lselLow : Bool
  commandCount : BitVec 4
  commandResult : CommandResult
deriving DecidableEq, Repr

/-! ### The whole part -/

/-- The state of the KW6418, and the queue of commands that wait (first in, first out). -/
structure State where
  /-- RST has been taken as asserted and not yet as negated (R162) -/
  rstLow : Bool
  /-- the station number sampled from the straps (R132) -/
  sid : BitVec 4
  /-- what the blocks took at load completion; absent before (R144) -/
  cfg : Option Settings
  timer : FrameTimer
  bus : BusInterface
  membership : Membership
  alloc : Allocator
  agree : Agreement
  demand : DemandQueue
  engine : PatternEngine
  loader : ImageLoader
  events : EventQueue
  counters : Counters
  port : LocalPort
  /-- the model's own: how many free values have been drawn (log entries 13, 14 and 36) -/
  draws : Nat
  /-- the commands that wait, the next first -/
  pending : List Instr
deriving DecidableEq, Repr

/-- The reasons the part can stop with a fault: none. The spec gives the part no stop: a bus fault (R15), a failed load
(R145) and isolation (R60) are states in which it goes on. Nobody raises one. Safe. -/
inductive Fault
deriving DecidableEq, Repr

/-- The reasons a command is refused. -/
inductive Refusal
  /-- A command that has no meaning yet. Raised by `exec` alone, in an arm without a meaning; no arm is one. Safe: the model
  stops where the part goes on. -/
  | notModelled (mnemonic : String)
deriving DecidableEq, Repr

/-- The answer of a step. -/
abbrev Result := Host.Outcome State Fault Refusal

/-! ### Reset -/

/-- An ABSENT peer entry with group 0 and heard flag clear (R41). -/
def PeerEntry.cleared : PeerEntry := { state := .absent, group := 0, heard := false }

/-- The Frame Timer after RST (R2, R13, R14, R17), with FRM high (DESIGN CHOICE, log entry 7). -/
def FrameTimer.reset : FrameTimer :=
  { mode := .stopped, value := 0, prescaler := 0, frame := 0, markLow := 0, silence := 0, ownPull := false, frmLow := false,
    emitted := 0, lapsed := [] }

/-- The Bus Interface after RST (R27, R31). -/
def BusInterface.reset : BusInterface :=
  { tx := .idle, window := none, claimRecords := List.replicate 16 .empty, digestRecords := List.replicate 16 .empty }

/-- The Membership Unit after RST (R42). -/
def Membership.reset : Membership :=
  { station := .loading, peers := List.replicate 16 PeerEntry.cleared, heardMap := 0, joiningSent := 0, joiningFrames := 0,
    streak := 0, foreignOnly := 0, leavePending := false, observation := .unaligned, listenRef := none, isolation := none }

/-- The Allocator after RST (R69): status NONE and a table without dimensions. -/
def Allocator.reset : Allocator :=
  { status := .none, table := [], claimList := [], unmetTallies := [], frame := 0, view := [] }

/-- The published table record after RST (R97). -/
def PublishedTable.reset : PublishedTable :=
  { frame := none, verdict := .none, bitmap := none, digest := none, cells := none }

/-- The Agreement Unit after RST (R85). -/
def Agreement.reset : Agreement :=
  { ownDigest := none, store := List.replicate 16 none, adoption := none, verdict := .none, previous := .none,
    published := PublishedTable.reset }

/-- The Demand Queue after RST (R114). -/
def DemandQueue.reset : DemandQueue :=
  { entries := [], nextRequest := 0, claimRecord := [], exposures := [],
    trga := { high := false, run := 0 }, trgb := { high := false, run := 0 } }

/-- The Pattern Engine after RST (R119). -/
def PatternEngine.reset : PatternEngine := { mode := .unloaded, levels := 0, justEnded := false, gap := false }

/-- The Image Loader after RST assertion (R133, R146). -/
def ImageLoader.reset : ImageLoader :=
  { state := .idle, header0 := none, header1 := none, chosen := none, fallback := none, granules := [], repaired := 0,
    result := .none, reason := .none, boot := none, bootPause := 0, bootClock := 0, failing := none }

/-- The Event Queue after RST (R155). -/
def EventQueue.reset : EventQueue := { records := [], overflow := false, discarded := false }

/-- All thirteen counters 0 (R154, R158). -/
def Counters.zero : Counters :=
  { damaged := 0, foreign := 0, mismatches := 0, collisions := 0, runtMarks := 0, busFaults := 0, holdoffs := 0,
    exposures := 0, aborts := 0, expiries := 0, overruns := 0, refusedTriggers := 0, unmetGrants := 0 }

/-- The Local Port after RST with LSEL high (R147, R149; DESIGN CHOICE on LSEL, log entry 5). -/
def LocalPort.reset : LocalPort := { state := .idle, lselLow := false, commandCount := 0, commandResult := .none }

/-- The machine right after reset: RST is asserted and every block has its RST value. -/
def State.reset : State :=
  { rstLow := true, sid := 0, cfg := none, timer := FrameTimer.reset, bus := BusInterface.reset,
    membership := Membership.reset, alloc := Allocator.reset, agree := Agreement.reset, demand := DemandQueue.reset,
    engine := PatternEngine.reset, loader := ImageLoader.reset, events := EventQueue.reset, counters := Counters.zero,
    port := LocalPort.reset, draws := 0, pending := [] }

end Sys2Proof.Machine
end

