-- ==== Sys2Proof/Machine/Messages.lean ====
section
/-! DEFINITION. The two message formats of the slot bus (02 §2.6): layouts, checks, and the bits on DAT (R22). -/

namespace Sys2Proof.Machine

/-- A claim as a byte (R37): class in bits 7–6, priority in 5–4, span − 1 in 3, count − 1 in 2–1, bit 0 clear. -/
def Claim.encode (c : Claim) : Byte :=
  byteOf (c.cls * 64 + c.priority * 16 + (c.span - 1) * 8 + (c.count - 1) * 2)

/-- The claim a byte holds (R37). -/
def Claim.decode (b : Byte) : Claim :=
  { cls := byteField b 6 2, priority := byteField b 4 2, span := byteField b 3 1 + 1, count := byteField b 1 2 + 1 }

/-- The ranges of R37. -/
def Claim.inRange (c : Claim) : Bool :=
  decide (c.cls < 4) && decide (c.priority < 4) && decide (1 ≤ c.span) && decide (c.span ≤ 2) &&
    decide (1 ≤ c.count) && decide (c.count ≤ 4)

/-- Bytes with their CRC-16 appended, high byte first (R39). -/
def withCheck (bytes : List Byte) : List Byte := bytes ++ halfBytes (crc16 bytes)

/-- The CRC-16 over all bytes but the last two equals those two, high byte first (R39). -/
def checkPasses (bytes : List Byte) : Bool :=
  crc16 (bytes.take (bytes.length - 2)) == halfAt bytes (bytes.length - 2)

/-- Byte 3 of an announcement (R36): JOINING, LEAVING and HELD in bits 7, 6 and 5, the claim count in bits 2–0. -/
def Announcement.flagsByte (a : Announcement) : Byte :=
  byteOf (a.joining.toNat * 128 + a.leaving.toNat * 64 + a.held.toNat * 32 + a.claims.length)

/-- The bytes of an announcement (R36), its check last. -/
def Announcement.encode (a : Announcement) : List Byte :=
  withCheck ([0x5A, byteOf (a.station * 16 + a.group * 2), a.frame, a.flagsByte] ++ halfBytes a.fingerprint ++
    halfBytes a.heardMap ++ a.claims.map Claim.encode)

/-- The fields of the bytes of an announcement (R36); the claim count is bits 2–0 of byte 3. -/
def Announcement.decode (bytes : List Byte) : Announcement :=
  { station := byteField (byteAt bytes 1) 4 4
    group := byteField (byteAt bytes 1) 1 3
    frame := byteAt bytes 2
    joining := (byteAt bytes 3).getLsbD 7
    leaving := (byteAt bytes 3).getLsbD 6
    held := (byteAt bytes 3).getLsbD 5
    fingerprint := halfAt bytes 4
    heardMap := halfAt bytes 6
    claims := ((bytes.drop 8).take (byteField (byteAt bytes 3) 0 3)).map Claim.decode }

/-- The fields of an announcement lie in the ranges of R36. -/
def Announcement.inRange (a : Announcement) : Bool :=
  decide (a.station < 16) && decide (a.group < 8) && decide (a.claims.length ≤ 4) && a.claims.all Claim.inRange

/-- The bytes of a digest message (R38), its check last. -/
def DigestMessage.encode (d : DigestMessage) : List Byte :=
  withCheck ([0x3C, byteOf (d.station * 16), d.frame] ++ halfBytes d.digest)

/-- The fields of the bytes of a digest message (R38). -/
def DigestMessage.decode (bytes : List Byte) : DigestMessage :=
  { station := byteField (byteAt bytes 1) 4 4, frame := byteAt bytes 2, digest := halfAt bytes 3 }

/-- The kind byte of a window's message (R36, R38). -/
def kindByte : WindowKind → Byte
  | .claim => 0x5A
  | .digest => 0x3C

/-- The ten bits of a byte on DAT (R22): start bit 0, eight data bits least significant first, stop bit 1. -/
def byteBits (b : Byte) : List Bool := false :: ((List.range 8).map b.getLsbD ++ [true])

/-- The bits of a message on DAT, byte after byte (R22). -/
def messageBits (bytes : List Byte) : List Bool := bytes.flatMap byteBits

/-- The level changes of a run of bits of `bd` REFCLK periods each that begins at time `t` after level `high`. -/
def togglesOf (bd : Nat) : Bool → Nat → List Bool → List Nat
  | _, _, [] => []
  | high, t, b :: bs => if b = high then togglesOf bd b (t + bd) bs else t :: togglesOf bd b (t + bd) bs

/-- What DAT does in a window whose owner alone sends these bytes (R22, R25): two lead-in bits, the message, released. -/
def lineOfBytes (bd : Nat) (bytes : List Byte) : DatLine :=
  { startLow := false, toggles := togglesOf bd true (2 * bd) (messageBits bytes) }

/-- A line that nobody pulls. -/
def lineReleased : DatLine := { startLow := false, toggles := [] }

end Sys2Proof.Machine
end

