-- ==== Sys2Proof/Machine/Timeline.lean ====
section
/-! DEFINITION. The frame layout of R3, the phase events of R4 with their instants, and the order of R5. -/

namespace Sys2Proof.Machine

/-- Start of claim window `k`: 24 + 160·B·k (R4). -/
def Settings.claimStart (c : Settings) (k : Nat) : Nat := 24 + 160 * c.bitTu * k

/-- Claim phase close: 24 + 160·N·B (R4). -/
def Settings.claimClose (c : Settings) : Nat := 24 + 160 * c.windows * c.bitTu

/-- Start of digest window `k`: 24 + 160·N·B + G + 80·B·k (R4). -/
def Settings.digestStart (c : Settings) (k : Nat) : Nat := c.claimClose + c.gap + 80 * c.bitTu * k

/-- Digest phase close: 24 + 240·N·B + G (R4). -/
def Settings.digestClose (c : Settings) : Nat := 24 + 240 * c.windows * c.bitTu + c.gap

/-- Start of slot `k`: 40 + 240·N·B + G + Ls·k (R4). -/
def Settings.slotStartAt (c : Settings) (k : Nat) : Nat := 40 + 240 * c.windows * c.bitTu + c.gap + c.slotLen * k

/-- End of slot `k`: 40 + 240·N·B + G + Ls·(k+1) (R4). -/
def Settings.slotEndAt (c : Settings) (k : Nat) : Nat := c.slotStartAt (k + 1)

/-- The frame length L = 40 + 240·N·B + G + S·Ls + T (R3). -/
def Settings.frameLength (c : Settings) : Nat :=
  40 + 240 * c.windows * c.bitTu + c.gap + c.slots * c.slotLen + c.tail

/-- Start of window `k` of either kind. -/
def Settings.windowStart (c : Settings) : WindowKind → Nat → Nat
  | .claim, k => c.claimStart k
  | .digest, k => c.digestStart k

/-- The settle point of a window, in bit times after its start (R31): 159 and 79. -/
def settleBits : WindowKind → Nat
  | .claim => 159
  | .digest => 79

/-- The settle point of window `k` (R31). -/
def Settings.settleAt (c : Settings) (kind : WindowKind) (k : Nat) : Nat :=
  c.windowStart kind k + settleBits kind * c.bitTu

/-- REFCLK periods in a bus bit: B·D (R21). -/
def Settings.bitClocks (c : Settings) : Nat := c.bitTu * c.divider

/-- REFCLK periods from a bit's start to its sample point: floor(B·D/2) (R21). -/
def Settings.sampleClocks (c : Settings) : Nat := c.bitClocks / 2

/-! ### The places of the phase events in the order of R4 and R5

Slot k end comes before slot k+1 start, as R5 says in words (DEDUCED, log entry 25). -/

/-- Place of claim window `k` start. -/
def Settings.placeClaim (_c : Settings) (k : Nat) : Nat := k

/-- Place of claim phase close. -/
def Settings.placeClaimClose (c : Settings) : Nat := c.windows

/-- Place of digest window `k` start. -/
def Settings.placeDigest (c : Settings) (k : Nat) : Nat := c.windows + 1 + k

/-- Place of digest phase close. -/
def Settings.placeDigestClose (c : Settings) : Nat := 2 * c.windows + 1

/-- Place of slot `k` start. -/
def Settings.placeSlotStart (c : Settings) (k : Nat) : Nat := 2 * c.windows + 2 + 2 * k

/-- Place of slot `k` end. -/
def Settings.placeSlotEnd (c : Settings) (k : Nat) : Nat := 2 * c.windows + 3 + 2 * k

/-- Place of expiry. -/
def Settings.placeExpiry (c : Settings) : Nat := 2 * c.windows + 2 + 2 * c.slots

/-- All phase events of a frame with their frame timer values, in the order in which they are emitted (R4, R5). -/
def Settings.schedule (c : Settings) : List (Nat × Instr) :=
  (List.range c.windows).map (fun k => (c.claimStart k, Instr.claimWindowStart k))
  ++ [(c.claimClose, .claimPhaseClose)]
  ++ (List.range c.windows).map (fun k => (c.digestStart k, Instr.digestWindowStart k))
  ++ [(c.digestClose, .digestPhaseClose)]
  ++ (List.range c.slots).flatMap
      (fun k => [(c.slotStartAt k, Instr.slotStart k), (c.slotEndAt k, Instr.slotEnd k)])
  ++ [(c.frameLength, .expiry)]

/-- The slot whose start has been emitted and whose end has not, when `emitted` phase events have been (R10). -/
def Settings.slotInProgress (c : Settings) (emitted : Nat) : Option Nat :=
  if 2 * c.windows + 3 ≤ emitted ∧ (emitted - (2 * c.windows + 3)) % 2 = 0 ∧
      (emitted - (2 * c.windows + 3)) / 2 < c.slots then
    some ((emitted - (2 * c.windows + 3)) / 2)
  else none

end Sys2Proof.Machine
end

