-- ==== Sys2Proof/Machine/Operands.lean ====
section
/-! DEFINITION. What the part makes of the operands that pins bring: DAT in a window (R29, R30, R32–R34), the samples of a
trigger input (R161), the code byte of a transaction (R148). -/

namespace Sys2Proof.Machine

/-! ### DAT in a window -/

/-- DAT is low at time `t` (REFCLK periods since the window's start). A sample at the very period of a level change reads the
level after it (DESIGN CHOICE, log entry 35: the spec does not say which level it reads). -/
def lowAt (line : DatLine) (t : Nat) : Bool :=
  line.startLow != decide ((line.toggles.filter (fun x => decide (x ≤ t))).length % 2 = 1)

/-- Every second member of a list, from the first. -/
def everySecond : List Nat → List Nat
  | [] => []
  | [a] => [a]
  | a :: _ :: rest => a :: everySecond rest

/-- The times of the falling edges of DAT. -/
def falls (line : DatLine) : List Nat :=
  if line.startLow then everySecond line.toggles.tail else everySecond line.toggles

/-- The first falling edge at or after `a` and before `b`. -/
def firstFall (line : DatLine) (a b : Nat) : Option Nat :=
  (falls line).find? (fun x => decide (a ≤ x) && decide (x < b))

/-- The start search of R29, for the falling edges of the list in turn: an edge in the first 8 bit times whose start bit
sample, `bd / 2` later, reads 0 by the end of the 8th; an edge whose sample reads 1 is a false start and is discarded, and
the search resumes at that sample. `from_` is where the search stands. Log entry 9. -/
def startSearch (line : DatLine) (bd : Nat) : List Nat → Nat → Option Nat
  | [], _ => none
  | e :: rest, from_ =>
    if e < from_ then startSearch line bd rest from_
    else if 8 * bd < e + bd / 2 then none
    else if lowAt line (e + bd / 2) then some e
    else startSearch line bd rest (e + bd / 2)

/-- The data byte timed from the falling edge `e` of its start bit: bit m is sampled at e + m·B tu + floor(B·D/2) REFCLK
periods (R30). -/
def sampledByte (line : DatLine) (bd e : Nat) : Byte :=
  byteOf (natOfBitsLsbFirst ([1, 2, 3, 4, 5, 6, 7, 8].map (fun m => !lowAt line (e + m * bd + bd / 2))))

/-- What reception makes of a window: no start, a framing error or overrun, or the bytes of a whole message. -/
inductive Reception
  | silent
  | damaged
  | bytes (b : List Byte)
deriving DecidableEq, Repr

/-- The length of the message whose first bytes are `got`, once it is known (R30): 7 for a digest message, 10 + k for an
announcement, k being the claim count in byte 3. -/
def messageLength (kind : WindowKind) (got : List Byte) : Option Nat :=
  match kind with
  | .digest => some 7
  | .claim => if got.length < 4 then none else some (10 + byteField (byteAt got 3) 0 3)

/-- Byte reception of R30 from the start edge `e`, with the bytes already received. `fuel` bounds the bytes: no message has
more than 14. The framing errors of R30, in turn: the settle point comes before the stop bit is sampled; the start bit reads
1; the stop bit reads 0; the next start edge does not come before e + 11·B tu. After the last byte a falling edge before the
settle point is a length overrun. An announcement with a claim count of 5–7 is DAMAGED (R32) and is read no further. -/
def receiveBytes (kind : WindowKind) (line : DatLine) (bd settle : Nat) : Nat → List Byte → Nat → Reception
  | 0, _, _ => .damaged
  | fuel + 1, got, e =>
    let sample := e + 9 * bd + bd / 2
    let got' := got ++ [sampledByte line bd e]
    if settle ≤ sample then .damaged
    else if !lowAt line (e + bd / 2) then .damaged
    else if lowAt line sample then .damaged
    else match messageLength kind got' with
      | none =>
        match firstFall line sample (e + 11 * bd) with
        | some e' => receiveBytes kind line bd settle fuel got' e'
        | none => .damaged
      | some n =>
        if 14 < n then .damaged
        else if got'.length < n then
          match firstFall line sample (e + 11 * bd) with
          | some e' => receiveBytes kind line bd settle fuel got' e'
          | none => .damaged
        else if (firstFall line sample settle).isSome then .damaged
        else .bytes got'

/-- The reception of a window (R29, R30): `bd` is B·D, the REFCLK periods of a bus bit. -/
def receive (kind : WindowKind) (bd : Nat) (line : DatLine) : Reception :=
  match startSearch line bd (falls line) 0 with
  | none => .silent
  | some e => receiveBytes kind line bd (settleBits kind * bd) 14 [] e

/-- The conditions of R32 on the bytes of a message of window `k`: kind, owner, content, check. -/
def bytesDamaged (kind : WindowKind) (k : Nat) (bytes : List Byte) : Bool :=
  byteAt bytes 0 != kindByte kind ||
  byteField (byteAt bytes 1) 4 4 != k ||
  (kind == .claim &&
    (((byteAt bytes 3).getLsbD 7 && (byteAt bytes 3).getLsbD 6) ||
     (((byteAt bytes 3).getLsbD 7 || (byteAt bytes 3).getLsbD 6) && byteField (byteAt bytes 3) 0 3 != 0))) ||
  !checkPasses bytes

/-- IN_STEP if the frame numbers are equal (R34). -/
def stepOf (own carried : Byte) : FrameStep := if carried = own then .inStep else .outOfStep

/-- The classification of a received window (§2.5): SILENT, DAMAGED (R32), FOREIGN (R33), else INTACT with its step (R34).
`fingerprint` and `frame` are the receiver's own. -/
def classify (kind : WindowKind) (k : Nat) (fingerprint : Half) (frame : Byte) : Reception → WindowRecord
  | .silent => .silent
  | .damaged => .damaged
  | .bytes b =>
    if bytesDamaged kind k b then .damaged
    else match kind with
      | .claim =>
        let a := Announcement.decode b
        if a.fingerprint ≠ fingerprint then .foreign else .intact (stepOf frame a.frame) (.announcement a)
      | .digest =>
        let d := DigestMessage.decode b
        .intact (stepOf frame d.frame) (.digest d)

/-! ### The own transmission -/

/-- The level the transmitter drives for bit `i` of its own window (R25, R26): the two lead-in bits are released, and so is
everything after the message. `bytes` is `none` during the lead-in. -/
def drivenHigh (bytes : Option (List Byte)) (i : Nat) : Bool :=
  match bytes with
  | none => true
  | some b => if i < 2 then true else (messageBits b).getD (i - 2) true

/-! ### Trigger inputs -/

/-- The input shows one level for `n` samples more (R161): a level is accepted once it has held for D samples in a row, and a
sample of the accepted level ends a run of the other. `d` is the divider D. -/
def TrgFilter.hold (f : TrgFilter) (d : Nat) (level : Bool) (n : Nat) : TrgFilter :=
  if n = 0 then f
  else if level = f.high then { f with run := 0 }
  else if d ≤ f.run + n then { high := level, run := 0 }
  else { f with run := f.run + n }

/-- The input is low for `lows` samples and then high for `highs`, after the samples the filter has already seen (R161). The answer is
the filter after them, and whether a high level was accepted after a low one: an arrival. -/
def filterPulse (d : Nat) (f : TrgFilter) (lows highs : Nat) : TrgFilter × Bool :=
  let f1 := f.hold d false lows
  let f2 := f1.hold d true highs
  (f2, f2.high && !f1.high)

/-! ### Local port codes -/

/-- The code byte of a command (R148). -/
def portCommandCode : PortCommand → Byte
  | .clearCounters => 0x10
  | .leave => 0x20
  | .rejoin => 0x21

/-- What a code byte names: the table of R148. -/
def portCodeOf (code : Byte) : PortCode :=
  if code = 0x01 then .readStatus
  else if code = 0x02 then .readEvent
  else if code = 0x03 then .readPeers
  else if code = 0x04 then .readTable
  else if code = 0x05 then .readQueue
  else if code = 0x06 then .readCounters
  else if code = 0x10 then .command .clearCounters
  else if code = 0x20 then .command .leave
  else if code = 0x21 then .command .rejoin
  else .other

/-- The command that the eighth rising edge of LCLK in CODE brings: the eight levels of LDI sampled at the rising edges, the
most significant bit first, give the code byte, and R148 classifies it (log entry 26). -/
def codeEvent (ldi : List Bool) : Instr :=
  match portCodeOf (byteOfLevels ldi) with
  | .readStatus => .readStatus
  | .readEvent => .readEvent
  | .readPeers => .readPeers
  | .readTable => .readTable
  | .readQueue => .readQueue
  | .readCounters => .readCounters
  | .command c => .commandCodeComplete c
  | .other => .rejectedCode (byteOfLevels ldi)

/-! ### The boot port -/

/-- The command that the end of a boot port read brings: the 128 levels of BDI sampled at the rising edges of BCLK give 16
bytes, each most significant bit first (R134; log entry 26). -/
def readEvent (bdi : List Bool) : Instr := .granuleRead (bytesOfLevels 16 bdi)

end Sys2Proof.Machine
end

