-- ==== Sys2Proof/Machine/Placement.lean ====
section
/-! DEFINITION. The Allocator's procedure (04 §4.4, §4.5) as functions of the claim list, the frame number, S and C, and
the digest of the table it builds (05 §5.2). R84: nothing else enters. -/

namespace Sys2Proof.Machine

/-- The empty table of S slots of C cells (R68, R69). -/
def emptyTable (slots channels : Nat) : Table := List.replicate slots (List.replicate channels none)

/-- The cell at slot `s`, channel `c`. -/
def Table.cell (t : Table) (s c : Nat) : Option Cell := (t.getD s []).getD c none

/-- The table with that cell filled. -/
def Table.fill (t : Table) (s c : Nat) (x : Cell) : Table := t.set s ((t.getD s []).set c (some x))

/-- The rotation rank of a station in a frame: (station − (frame number mod 16)) mod 16 (R76). -/
def rotationRank (frame : Byte) (station : Nat) : Nat := (station + 16 - frame.toNat % 16) % 16

/-- The order of R75: priority highest first, then rotation rank, class and position lowest first. -/
def ClaimEntry.before (a b : ClaimEntry) : Bool :=
  if a.priority ≠ b.priority then decide (b.priority < a.priority)
  else if a.rank ≠ b.rank then decide (a.rank < b.rank)
  else if a.cls ≠ b.cls then decide (a.cls < b.cls)
  else decide (a.position < b.position)

/-- An entry put into an ordered list, before the first that does not come before it. -/
def insertEntry (e : ClaimEntry) : List ClaimEntry → List ClaimEntry
  | [] => [e]
  | x :: xs => if x.before e then x :: insertEntry e xs else e :: x :: xs

/-- The claim list in the order of R75. -/
def orderEntries (l : List ClaimEntry) : List ClaimEntry := l.foldr insertEntry []

/-- The entries of one station's admitted claims, in the order it sent them (R74). -/
def entriesOf (frame : Byte) (station group : Nat) (claims : List Claim) : List ClaimEntry :=
  claims.zipIdx.map (fun p =>
    { station := station, group := group, cls := p.1.cls, priority := p.1.priority, span := p.1.span, count := p.1.count,
      position := p.2, rank := rotationRank frame station, granted := 0, unmet := 0 })

/-- The group of a station in the claim list (R72, R77). -/
def groupIn (list : List ClaimEntry) (station : Nat) : Option Nat :=
  (list.find? (fun e => e.station == station)).map (·.group)

/-- Slot `s` holds a cell of a station whose group in the claim list is `g` (R77). -/
def slotHasGroup (list : List ClaimEntry) (t : Table) (s g : Nat) : Bool :=
  (t.getD s []).any (fun x => match x with
    | some cell => groupIn list cell.station == some g
    | none => false)

/-- The conditions of R77 at position (s, c): fit, channel and group. -/
def positionFree (list : List ClaimEntry) (slots : Nat) (t : Table) (e : ClaimEntry) (s c : Nat) : Bool :=
  decide (s + e.span - 1 < slots) &&
    (List.range e.span).all (fun i => (t.cell (s + i) c).isNone && !slotHasGroup list t (s + i) e.group)

/-- All cell positions, slots ascending and channels ascending within each (R77). -/
def positions (slots channels : Nat) : List (Nat × Nat) :=
  (List.range slots).flatMap (fun s => (List.range channels).map (fun c => (s, c)))

/-- The first position that meets the three conditions of R77, if any. -/
def findPosition (list : List ClaimEntry) (slots channels : Nat) (t : Table) (e : ClaimEntry) : Option (Nat × Nat) :=
  (positions slots channels).find? (fun p => positionFree list slots t e p.1 p.2)

/-- The cells an attempt writes at (s, c) (R78). -/
def writeExposure (t : Table) (e : ClaimEntry) (s c : Nat) : Table :=
  let t1 := t.fill s c { station := e.station, cls := e.cls, part := 0 }
  if e.span = 2 then t1.fill (s + 1) c { station := e.station, cls := e.cls, part := 1 } else t1

/-- Up to `attempts` attempts of one entry (R77–R79): each success is written and granted, and the first failure sets the
entry's unmet number to count minus granted. -/
def placeEntry (list : List ClaimEntry) (slots channels : Nat) : Nat → Table → ClaimEntry → Table × ClaimEntry
  | 0, t, e => (t, e)
  | attempts + 1, t, e =>
    match findPosition list slots channels t e with
    | some (s, c) => placeEntry list slots channels attempts (writeExposure t e s c) { e with granted := e.granted + 1 }
    | none => (t, { e with unmet := e.count - e.granted })

/-- The placement of the entries one after another (R75, R79): the table, and the entries with their granted and unmet
numbers. -/
def placeAll (list : List ClaimEntry) (slots channels : Nat) : Table → List ClaimEntry → Table × List ClaimEntry
  | t, [] => (t, [])
  | t, e :: rest =>
    let r := placeEntry list slots channels e.count t e
    let r' := placeAll list slots channels r.1 rest
    (r'.1, r.2 :: r'.2)

/-- The placement of a claim list into an empty table (R68, R77–R79). -/
def allocate (slots channels : Nat) (list : List ClaimEntry) : Table × List ClaimEntry :=
  placeAll list slots channels (emptyTable slots channels) list

/-! ### The digest -/

/-- The byte of a cell: FFh when empty, station·8 + class·2 + part when filled (R86). -/
def cellByte : Option Cell → Byte
  | none => 0xFF
  | some x => byteOf (x.station * 8 + x.cls * 2 + x.part)

/-- The cells in the order of R86, one byte each. -/
def tableBytes (t : Table) : List Byte := t.flatMap (fun slot => slot.map cellByte)

/-- The bytes a digest covers (R86): member bitmap, frame number, cells. -/
def digestInput (view : List Nat) (frame : Byte) (t : Table) : List Byte :=
  halfBytes (bitmapOf view) ++ [frame] ++ tableBytes t

/-- The digest of R86. -/
def digestOf (view : List Nat) (frame : Byte) (t : Table) : Half := crc16 (digestInput view frame t)

end Sys2Proof.Machine
end

