-- ==== Sys2Proof/Machine/Ops.lean ====
section
/-! DEFINITION. The operations that several commands share: records and counters, the passage of time, the Demand Queue's and
the Pattern Engine's reactions, the entries to the station states, and the mark. -/

namespace Sys2Proof.Machine

/-! ### Reading the state -/

/-- The own station number. -/
def State.me (s : State) : Nat := s.sid.toNat

/-- The own station state (R40). -/
def State.station (s : State) : StationState := s.membership.station

/-- The class record of a class; a class without source where there is no configuration (R99). -/
def Settings.classOf (c : Settings) (cls : Nat) : ClassRecord :=
  c.classes.getD cls { source := .none, pattern := 0, priority := 0, limit := 1, maxAge := 1 }

/-- Pattern record `p` of the store (R115). -/
def Settings.patternOf (c : Settings) (p : Nat) : PatternRecord := c.patterns.getD p { span := 1, first := 0, count := 0 }

/-- The edges of pattern `p`, in pool order (R115). -/
def Settings.patternEdges (c : Settings) (p : Nat) : List Edge :=
  let r := c.patternOf p
  if r.count = 0 then [] else (c.edges.drop r.first).take r.count

/-- The span of a class: that of its pattern (R99, R116). -/
def Settings.classSpan (c : Settings) (cls : Nat) : Nat := (c.patternOf (c.classOf cls).pattern).span

/-- A class is triggered if its source is TRGA or TRGB (R99). -/
def ClassRecord.triggered (r : ClassRecord) : Bool := r.source == .trga || r.source == .trgb

/-- The peer entry of a station (R43). -/
def State.peer (s : State) (k : Nat) : PeerEntry := s.membership.peers.getD k PeerEntry.cleared

/-- The announcement heard from station `k` in this frame, with its step, if its claim window is INTACT (R31). -/
def State.heardFrom (s : State) (k : Nat) : Option (FrameStep × Announcement) :=
  match s.bus.claimRecords.getD k .empty with
  | .intact step (.announcement a) => some (step, a)
  | _ => none

/-- The own claim window's transmit outcome (R28); NONE where the station sent nothing. -/
def State.ownClaimOutcome (s : State) : TxOutcome :=
  match s.bus.claimRecords.getD s.me .empty with
  | .own o => o
  | _ => .none

/-- The member view (R46): itself when MEMBER, and every peer whose entry is MEMBER or MISSING; stations ascending. -/
def State.memberView (s : State) : List Nat :=
  (List.range 16).filter (fun k =>
    if k = s.me then s.station == .member
    else match (s.peer k).state with
      | .member => true
      | .missing1 => true
      | .missing2 => true
      | _ => false)

/-- The own cell in slot `k` of a COMPLETE table, with its channel (R68, R120). -/
def State.ownCell (s : State) (k : Nat) : Option (Nat × Cell) :=
  if s.alloc.status = .complete then
    ((s.alloc.table.getD k []).zipIdx.findSome? (fun p => match p.1 with
      | some x => if x.station = s.me then some (p.2, x) else none
      | none => none))
  else none

/-- The mode lets the Frame Timer emit phase events and receive (R2). -/
def State.timing (s : State) : Bool := s.timer.mode == .running

/-! ### Event records and counters -/

/-- An offer (R155): appended with room, else discarded with the overflow flag set. -/
def EventQueue.offer (q : EventQueue) (r : EventRecord) : EventQueue :=
  if q.records.length < 32 then { q with records := q.records ++ [r] }
  else { q with overflow := true, discarded := true }

/-- A record offered to the Event Queue (R155). -/
def State.offer (s : State) (r : EventRecord) : State := { s with events := s.events.offer r }

/-- Records offered in their order (R156). -/
def State.offerAll (s : State) (rs : List EventRecord) : State := { s with events := rs.foldl EventQueue.offer s.events }

/-- An increment of n: the lesser of the value plus n and 65535 (R158). -/
def saturatingAdd (x : Half) (n : Nat) : Half := BitVec.ofNat 16 (min (x.toNat + n) 65535)

/-- The thirteen counters (R158). -/
inductive CounterName
  | damaged
  | foreign
  | mismatches
  | collisions
  | runtMarks
  | busFaults
  | holdoffs
  | exposures
  | aborts
  | expiries
  | overruns
  | refusedTriggers
  | unmetGrants
deriving DecidableEq, Repr

/-- A counter's value. -/
def Counters.get (k : Counters) : CounterName → Half
  | .damaged => k.damaged
  | .foreign => k.foreign
  | .mismatches => k.mismatches
  | .collisions => k.collisions
  | .runtMarks => k.runtMarks
  | .busFaults => k.busFaults
  | .holdoffs => k.holdoffs
  | .exposures => k.exposures
  | .aborts => k.aborts
  | .expiries => k.expiries
  | .overruns => k.overruns
  | .refusedTriggers => k.refusedTriggers
  | .unmetGrants => k.unmetGrants

/-- One counter incremented by `n` (R158). -/
def Counters.add (k : Counters) (c : CounterName) (n : Nat) : Counters :=
  match c with
  | .damaged => { k with damaged := saturatingAdd k.damaged n }
  | .foreign => { k with foreign := saturatingAdd k.foreign n }
  | .mismatches => { k with mismatches := saturatingAdd k.mismatches n }
  | .collisions => { k with collisions := saturatingAdd k.collisions n }
  | .runtMarks => { k with runtMarks := saturatingAdd k.runtMarks n }
  | .busFaults => { k with busFaults := saturatingAdd k.busFaults n }
  | .holdoffs => { k with holdoffs := saturatingAdd k.holdoffs n }
  | .exposures => { k with exposures := saturatingAdd k.exposures n }
  | .aborts => { k with aborts := saturatingAdd k.aborts n }
  | .expiries => { k with expiries := saturatingAdd k.expiries n }
  | .overruns => { k with overruns := saturatingAdd k.overruns n }
  | .refusedTriggers => { k with refusedTriggers := saturatingAdd k.refusedTriggers n }
  | .unmetGrants => { k with unmetGrants := saturatingAdd k.unmetGrants n }

/-- A counter incremented by `n` (R158). -/
def State.count (s : State) (c : CounterName) (n : Nat) : State := { s with counters := s.counters.add c n }

/-! ### The passage of time -/

/-- The modes in which the stuck-FRM monitor runs (R2, R14). -/
def TimerMode.monitors : TimerMode → Bool
  | .searching => true
  | .running => true
  | .holding => true
  | .stopped => false
  | .faulted => false

/-- `n` whole tu pass in the Frame Timer: the value advances in RUNNING up to L (R2), the mark-low duration while FRM is low
up to 65 (R14), the silence timer in LISTENING up to 2L (R17), and the prescaler stands at a tu boundary. -/
def FrameTimer.elapse (t : FrameTimer) (len : Nat) (listening : Bool) (n : Nat) : FrameTimer :=
  { t with
    value := if t.mode = .running then min (t.value + n) len else t.value
    prescaler := if n = 0 then t.prescaler else 0
    markLow := if t.frmLow && t.mode.monitors then min (t.markLow + n) 65 else t.markLow
    silence := if listening && t.mode != .stopped then min (t.silence + n) (2 * len) else t.silence
    lapsed := if n = 0 then t.lapsed else [] }

/-- Time passes in the Pattern Engine: the rest of one REFCLK period between two exposures is over (R126). -/
def PatternEngine.elapse (e : PatternEngine) (n : Nat) : PatternEngine :=
  if n = 0 then e else { e with justEnded := false, gap := false }

/-- `n` whole tu pass. -/
def State.elapse (s : State) (c : Settings) (n : Nat) : State :=
  { s with timer := s.timer.elapse c.frameLength (s.station == .listening) n, engine := s.engine.elapse n }

/-- Time passes up to the frame timer value `v`; none passes if that is behind. -/
def State.advanceTo (s : State) (c : Settings) (v : Nat) : State := s.elapse c (v - s.timer.value)

/-- Time passes up to `clocks` REFCLK periods into the tu at frame timer value `v` (R1, R21, R122); none passes if that is
behind. -/
def State.advanceClock (s : State) (c : Settings) (v clocks : Nat) : State :=
  let s1 := s.advanceTo c v
  if s1.timer.value = v ∧ s1.timer.prescaler < clocks then
    { s1 with
      timer := { s1.timer with prescaler := clocks, lapsed := [] }
      engine := s1.engine.elapse 1 }
  else s1

/-- The phase event at `place` can be emitted: the Frame Timer is RUNNING and has emitted nothing at that place or after it
in this frame (R4, R5; log entry 3). -/
def State.emits (s : State) (place : Nat) : Bool := s.timing && decide (s.timer.emitted ≤ place)

/-- The Frame Timer reaches the value of the phase event at `place` and emits it (R4). -/
def State.reach (s : State) (c : Settings) (place v : Nat) : State :=
  let s1 := s.advanceTo c v
  { s1 with timer := { s1.timer with emitted := place + 1 } }

/-- The phase event at `place` came with the mark that ended its frame, which was taken first: it is not emitted (R12). -/
def State.passOver (s : State) (place : Nat) : State :=
  { s with timer := { s.timer with lapsed := s.timer.lapsed.erase place } }

/-- The phase event at `place`, with value `v` and the reactions `react`: passed over where a mark at the same value was taken
before it (R12), emitted where it can be (R4, R5), and otherwise nothing (log entry 2). -/
def State.phase (s : State) (c : Settings) (place v : Nat) (react : State → State) : State :=
  if s.timer.lapsed.contains place then s.passOver place
  else if s.emits place then react (s.reach c place v)
  else s

/-! ### Demand Queue -/

/-- The item of the exposure list at a part-0 position (R109). -/
def DemandQueue.itemAt (q : DemandQueue) (slot channel : Nat) : Option ExposureItem :=
  q.exposures.find? (fun it => it.slot == slot && it.channel == channel)

/-- The item and, for a triggered class, its BOUND entry leave the queue (R109, R111). -/
def DemandQueue.drop (q : DemandQueue) (it : ExposureItem) : DemandQueue :=
  { q with
    exposures := q.exposures.filter (fun x => !(x.slot == it.slot && x.channel == it.channel))
    entries := if it.request.isSome then q.entries.filter (fun e => e.bound != some (it.slot, it.channel)) else q.entries }

/-- A record of an exposure: class, request number, part-0 slot and channel (R109, R111). -/
def exposureRecord (kind : EventKind) (frame : Byte) (it : ExposureItem) : EventRecord :=
  { kind := kind, frame := frame, cls := some it.cls, request := it.request, slot := some it.slot, channel := some it.channel }

/-- The Demand Queue's reaction to a completion report (R109). -/
def State.retire (s : State) (slot channel : Nat) : State :=
  match s.demand.itemAt slot channel with
  | some it =>
    (({ s with demand := s.demand.drop it }).count .exposures 1).offer (exposureRecord .exposed s.timer.frame it)
  | none => s

/-- The RUNNING item, if any, is aborted (R111, R113). -/
def State.abortItem (s : State) : State :=
  match s.demand.exposures.find? (·.running) with
  | some it =>
    (({ s with demand := s.demand.drop it }).count .aborts 1).offer (exposureRecord .aborted s.timer.frame it)
  | none => s

/-- Every entry is removed, front to back, with a CANCELLED record; the own claim record and the exposure list are emptied
(R113). -/
def State.cancelQueue (s : State) : State :=
  let s1 := s.abortItem
  ({ s1 with demand := { s1.demand with entries := [], claimRecord := [], exposures := [] } }).offerAll
    (s1.demand.entries.map (fun (e : DemandEntry) =>
      { kind := .cancelled, frame := s1.timer.frame, cls := some e.cls, request := some e.request }))

/-- Aging (R112): an entry below its class's max age is one mark older; the others leave. -/
def ageEntries (c : Settings) (entries : List DemandEntry) : List DemandEntry :=
  (entries.filter (fun e => decide (e.age < (c.classOf e.cls).maxAge))).map (fun e => { e with age := e.age + 1 })

/-- The entries that expire at a mark (R112), in queue order. -/
def expiredEntries (c : Settings) (entries : List DemandEntry) : List DemandEntry :=
  entries.filter (fun e => !decide (e.age < (c.classOf e.cls).maxAge))

/-- The Demand Queue's reaction to a mark (§6.7): a runt aborts the RUNNING item (R111); whatever remains bound returns to
PENDING; the exposure list and the own claim record are emptied (R102); then the entries age (R112). -/
def State.demandMark (s : State) (c : Settings) (cls : MarkClass) : State :=
  let s1 := if cls = .runt then s.abortItem else s
  let waiting := s1.demand.entries.map (fun e => { e with bound := none })
  let gone := expiredEntries c waiting
  let s2 := { s1 with demand :=
    { s1.demand with entries := ageEntries c waiting, claimRecord := [], exposures := [] } }
  (s2.count .expiries gone.length).offerAll
    (gone.map (fun (e : DemandEntry) => { kind := .expired, frame := s2.timer.frame, cls := some e.cls, request := some e.request }))

/-- The claim of one class at the own claim window start (R100, R105): at most one. -/
def claimOf (c : Settings) (entries : List DemandEntry) (cls : Nat) : List Claim :=
  let r := c.classOf cls
  let waiting := (entries.filter (fun e => e.cls == cls && e.bound == none)).length
  match r.source with
  | .none => []
  | .periodic => [{ cls := cls, priority := r.priority, span := c.classSpan cls, count := r.limit }]
  | _ =>
    if waiting = 0 then []
    else [{ cls := cls, priority := r.priority, span := c.classSpan cls, count := min waiting r.limit }]

/-- The own claim record (R105): the claims of classes 0–3 in ascending order. -/
def claimsOf (c : Settings) (entries : List DemandEntry) : List Claim := [0, 1, 2, 3].flatMap (claimOf c entries)

/-- The oldest PENDING entry of a class becomes BOUND to a position (R107): the queue after it and the request number. -/
def bindOldest (cls slot channel : Nat) : List DemandEntry → List DemandEntry × Option Half
  | [] => ([], none)
  | e :: rest =>
    if e.cls = cls ∧ e.bound = none then ({ e with bound := some (slot, channel) } :: rest, some e.request)
    else
      let r := bindOldest cls slot channel rest
      (e :: r.1, r.2)

/-- One own part-0 cell is bound and put on the exposure list (R107). -/
def bindCell (c : Settings) (q : DemandQueue) (slot channel cls : Nat) : DemandQueue :=
  let r := if (c.classOf cls).triggered then bindOldest cls slot channel q.entries else (q.entries, none)
  { q with
    entries := r.1
    exposures := q.exposures ++
      [{ slot := slot, channel := channel, cls := cls, span := c.classSpan cls, request := r.2, running := false }] }

/-- The own part-0 cells in slot order: slot, channel, class (R81, R107). -/
def State.ownPart0 (s : State) (c : Settings) : List (Nat × Nat × Nat) :=
  (List.range c.slots).filterMap (fun k => match s.ownCell k with
    | some (ch, x) => if x.part = 0 then some (k, ch, x.cls) else none
    | none => none)

/-- Binding (R107). -/
def State.bind (s : State) (c : Settings) : State :=
  { s with demand := (s.ownPart0 c).foldl (fun q p => bindCell c q p.1 p.2.1 p.2.2) s.demand }

/-! ### Pattern Engine -/

/-- The logical levels after one edge (R122). -/
def applyEdge (levels : Byte) (e : Edge) : Byte :=
  if e.level then levels ||| (1#8 <<< e.output) else levels &&& ~~~(1#8 <<< e.output)

/-- The outputs return to idle, the record is discarded, and the engine is IDLE (R125 steps 1–4, R127). -/
def PatternEngine.rest (c : Settings) (ended : Bool) : PatternEngine :=
  { mode := .idle, levels := c.idleMask, justEnded := ended, gap := false }

/-- An exposure ends: outputs to idle, and the completion report is taken by the Demand Queue (R125). `atSlotEnd` is false
where the normal mark is taken as the end of the span. -/
def State.endExposure (s : State) (c : Settings) (r : RunningPattern) (atSlotEnd : Bool) : State :=
  ({ s with engine := PatternEngine.rest c atSlotEnd }).retire r.slot r.channel

/-- A running exposure is aborted, without a completion (R127, R128). -/
def State.abortEngine (s : State) (c : Settings) : State :=
  match s.engine.mode with
  | .running _ => { s with engine := PatternEngine.rest c false }
  | _ => s

/-- The Pattern Engine's reaction to a mark: a runt aborts (R127); a normal mark that finds it RUNNING ends the exposure with
its report (R125). -/
def State.engineMark (s : State) (c : Settings) (cls : MarkClass) : State :=
  match s.engine.mode, cls with
  | .running _, .runt => s.abortEngine c
  | .running r, .normal => s.endExposure c r false
  | _, _ => s

/-! ### Station states -/

/-- The peer table cleared and the heard map empty (R41). -/
def Membership.clearPeers (m : Membership) : Membership :=
  { m with peers := List.replicate 16 PeerEntry.cleared, heardMap := 0 }

/-- The exit from MEMBER: the queue is cancelled (R113), the verdict and the own digest go (R85), leave-pending is cleared
(R41). In any other state, nothing. -/
def State.exitMember (s : State) : State :=
  if s.station = .member then
    let s1 := s.cancelQueue
    { s1 with
      agree := { s1.agree with verdict := .none, ownDigest := none }
      membership := { s1.membership with leavePending := false } }
  else s

/-- Entry to LISTENING (R41, R13, R17). Records of the exit carry the frame number from before. -/
def State.enterListening (s : State) : State :=
  let s1 := s.exitMember
  { s1 with
    membership := { s1.membership.clearPeers with
      station := .listening, observation := .unaligned, listenRef := none, streak := 0, joiningSent := 0,
      joiningFrames := 0, leavePending := false }
    timer := { s1.timer with frame := 0, silence := 0 } }

/-- Entry to JOINING (R41); the silence timer stops at 0 (R17, R20). -/
def State.enterJoining (s : State) : State :=
  { s with
    membership := { s.membership with station := .joining, joiningSent := 0, joiningFrames := 0 }
    timer := { s.timer with silence := 0 } }

/-- Entry to MEMBER, with the ADMITTED record (R41, R54). -/
def State.enterMember (s : State) : State :=
  ({ s with membership :=
    { s.membership with station := .member, foreignOnly := 0, joiningSent := 0, joiningFrames := 0 } }).offer
    { kind := .admitted, frame := s.timer.frame }

/-- Entry to LEAVING (R41, R62). -/
def State.enterLeaving (s : State) : State :=
  let s1 := s.exitMember
  { s1 with membership := { s1.membership with station := .leaving, leavePending := false } }

/-- The peer table cleared, every count 0 and leave-pending clear: what R41 gives OFFLINE and ISOLATED. -/
def Membership.withdraw (m : Membership) (st : StationState) (why : Option IsolationReason) : Membership :=
  { m.clearPeers with
    station := st, streak := 0, joiningSent := 0, joiningFrames := 0, foreignOnly := 0, leavePending := false,
    isolation := why }

/-- Entry to OFFLINE, with the LEFT record (R41). -/
def State.enterOffline (s : State) : State :=
  ({ s with
    membership := s.membership.withdraw .offline none
    timer := { s.timer with silence := 0 } }).offer { kind := .left, frame := s.timer.frame }

/-- The code of an isolation reason (09 §9.2). -/
def IsolationReason.code : IsolationReason → Nat
  | .duplicate => 0
  | .config => 1

/-- Entry to ISOLATED, with its record (R41, R58, R59). From MEMBER the queue is cancelled at the same instant; which
block's records come first is free (R156, log entry 14). -/
def State.enterIsolated (s : State) (why : IsolationReason) : State :=
  let r : EventRecord := { kind := .isolated, frame := s.timer.frame, channel := some why.code }
  let s1 :=
    if s.station = .member then
      let s2 := if Config.isolationRecordFirst s.draws then (s.offer r).exitMember else s.exitMember.offer r
      { s2 with draws := s.draws + 1 }
    else s.offer r
  { s1 with
    membership := s1.membership.withdraw .isolated (some why)
    timer := { s1.timer with silence := 0 } }

/-! ### The mark -/

/-- The heard map of the heard flags (R44). -/
def heardMapOf (peers : List PeerEntry) : Half :=
  bitmapOf ((List.range 16).filter (fun k => (peers.getD k PeerEntry.cleared).heard))

/-- At each mark the heard map is formed and the flags are cleared (R44). -/
def Membership.formHeardMap (m : Membership) : Membership :=
  { m with heardMap := heardMapOf m.peers, peers := m.peers.map (fun p => { p with heard := false }) }

/-- A normal mark ends the observation: the frame number is the listening reference plus one, if there is one, and the
station is JOINING (R48, R49). -/
def State.endListening (s : State) : State :=
  let frame := match s.membership.listenRef with
    | some f => f + 1
    | none => s.timer.frame
  ({ s with timer := { s.timer with frame := frame } }).enterJoining

/-- A mark leaves the station observing a new frame, with no reference (R48). -/
def State.observe (s : State) : State :=
  { s with membership := { s.membership with observation := .observing, listenRef := none } }

/-- The Membership Unit's reaction to a mark: the heard map (R44), the observation of LISTENING (R48), and LEAVING to
OFFLINE (R63). -/
def State.membershipMark (s : State) (cls : MarkClass) (selfStart : Bool) : State :=
  let s1 := { s with membership := s.membership.formHeardMap }
  match s.station with
  | .listening =>
    if selfStart then s1.enterJoining
    else if cls = .normal ∧ s.membership.observation = .observing then s1.endListening
    else s1.observe
  | .leaving => s1.enterOffline
  | _ => s1

/-- The Allocator at a mark: NONE, with everything of the frame cleared (R68). -/
def Allocator.cleared (c : Settings) : Allocator :=
  { status := .none, table := emptyTable c.slots c.channels, claimList := [], unmetTallies := [], frame := 0, view := [] }

/-- The Agreement Unit at a mark (R85): the previous verdict takes the verdict, the rest of the frame is cleared. -/
def Agreement.mark (a : Agreement) : Agreement :=
  { a with
    ownDigest := none, store := List.replicate 16 none, adoption := none, previous := a.verdict, verdict := .none }

/-- The places of the phase events that come together with a mark in RUNNING and are not yet emitted (R12): those of the
present frame timer value, and at a mark in the tail the expiry. -/
def State.lapsing (s : State) (c : Settings) : List Nat :=
  if s.timing then
    ((c.schedule.zipIdx.drop s.timer.emitted).filter (fun p => decide (p.1.1 = s.timer.value ∨
      (p.2 = c.placeExpiry ∧ c.frameLength - c.tail ≤ s.timer.value)))).map (·.2)
  else []

/-- The Frame Timer at a mark (R6, R9, R18): value 0, prescaler restarted, RUNNING, FRM low from now on, mark-low duration
from 0, the silence timer restarted, and the frame number one more, or 0 for a self-start (R13). The phase events at the
places of `lapsed` are not emitted (R12). -/
def FrameTimer.mark (t : FrameTimer) (selfStart pulls : Bool) (lapsed : List Nat) : FrameTimer :=
  { t with
    mode := .running, value := 0, prescaler := 0, markLow := 0, silence := 0, frmLow := true, emitted := 0
    ownPull := pulls
    lapsed := lapsed
    frame := if selfStart then 0 else t.frame + 1 }

/-- The RUNT record and count, made before the mark event is passed on (R10). -/
def State.noteRunt (s : State) (c : Settings) : State :=
  (s.count .runtMarks 1).offer { kind := .runt, frame := s.timer.frame, slot := c.slotInProgress s.timer.emitted }

/-- A mark is taken (R6, R9, R11, R18): the Frame Timer, then the reaction of every block. `pulls` tells that the station
makes the mark by its own pull. -/
def State.takeMark (s : State) (c : Settings) (cls : MarkClass) (selfStart pulls : Bool) : State :=
  let s0 := if cls = .runt then s.noteRunt c else s
  let s1 := { s0 with timer := s0.timer.mark selfStart pulls (s.lapsing c) }
  let s2 := s1.engineMark c cls
  let s3 := s2.demandMark c cls
  let s4 := s3.membershipMark cls selfStart
  { s4 with
    alloc := Allocator.cleared c
    agree := s4.agree.mark
    bus := BusInterface.reset
    engine := { s4.engine with justEnded := false, gap := false } }

/-- The classification of a falling edge (R9). -/
def State.markClass (s : State) (c : Settings) : MarkClass :=
  match s.timer.mode with
  | .searching => .aligning
  | .running => if c.frameLength - c.tail ≤ s.timer.value then .normal else .runt
  | _ => .normal

/-- The self-start of R18: the station pulls FRM and takes its own pull as a normal mark with frame number 0. -/
def State.selfStart (s : State) (c : Settings) : State := s.takeMark c .normal true true

end Sys2Proof.Machine
end

