-- ==== Sys2Proof/Machine/Exposure.lean ====
section
/-! DEFINITION. The commands of the slot phase and of the trigger inputs (06, 07): SLOT_START, SLOT_END, PATTERN_EDGE,
TRIGGER_ARRIVAL. -/

namespace Sys2Proof.Machine

/-! ### Slot start -/

/-- The Demand Queue's reaction to slot `k` start under EXPOSE (R109): the item of that slot is RUNNING. -/
def DemandQueue.startSlot (q : DemandQueue) (k : Nat) : DemandQueue :=
  { q with exposures := q.exposures.map (fun it => if it.slot = k then { it with running := true } else it) }

/-- Edge `a` comes no later than the time `offset`, `fine` after the origin. -/
def Edge.dueBy (e : Edge) (offset fine : Nat) : Bool := decide (e.offset < offset ∨ (e.offset = offset ∧ e.fine ≤ fine))

/-- The edges of the running pattern not yet applied whose time has come, in pool order (R122, R123). -/
def dueEdges (c : Settings) (r : RunningPattern) (offset fine : Nat) : List Edge :=
  ((c.patternEdges r.pattern).drop r.next).takeWhile (fun e => e.dueBy offset fine)

/-- The due edges are applied, each in turn, and the next edge moves on (R122, R123). -/
def PatternEngine.play (e : PatternEngine) (c : Settings) (r : RunningPattern) (offset fine : Nat) : PatternEngine :=
  let due := dueEdges c r offset fine
  { e with mode := .running { r with next := r.next + due.length }, levels := due.foldl applyEdge e.levels }

/-- The running-pattern record of an exposure in slot `k` (R120). -/
def Settings.startRecord (c : Settings) (k channel cls origin : Nat) : RunningPattern :=
  { slot := k, channel := channel, cls := cls, pattern := (c.classOf cls).pattern, span := c.classSpan cls,
    origin := origin, next := 0, second := false }

/-- The Pattern Engine's reaction to slot `k` start (R120, R121): IDLE, EXPOSE and an own part-0 cell start an exposure, with
its edges of offset 0 and fine delay 0 (R122, R130). After an exposure that ended at this instant EXPOSING and CHSEL rest for
one REFCLK period (R126). -/
def State.engineSlotStart (s : State) (c : Settings) (k : Nat) : PatternEngine :=
  match s.engine.mode, s.agree.verdict, s.ownCell k with
  | .idle, .expose, some (ch, x) =>
    if x.part = 0 then
      { s.engine with gap := s.engine.justEnded, justEnded := false }.play c
        (c.startRecord k ch x.cls s.timer.value) 0 0
    else s.engine
  | _, _, _ => s.engine

/-- SLOT_START (R4, R109, R120). -/
def execSlotStart (k : Nat) (s : State) : Result :=
  match s.cfg with
  | some c =>
    if k < c.slots then
      .next (s.phase c (c.placeSlotStart k) (c.slotStartAt k) (fun s1 =>
        { s1 with
          engine := s1.engineSlotStart c k
          demand := if s1.agree.verdict = .expose then s1.demand.startSlot k else s1.demand }))
    else .next s
  | none => .next s

/-! ### Slot end -/

/-- The slot in which the exposure's span ends (R125). -/
def RunningPattern.lastSlot (r : RunningPattern) : Nat := r.slot + r.span - 1

/-- The reaction to slot `k` end: a span that ends there ends the exposure (R125); the inner slot end of a span-2 exposure
goes on into SECOND SLOT (R124). -/
def State.engineSlotEnd (s : State) (c : Settings) (k : Nat) : State :=
  match s.engine.mode with
  | .running r =>
    if r.lastSlot ≤ k then s.endExposure c r true
    else if r.slot ≤ k then { s with engine := { s.engine with mode := .running { r with second := true } } }
    else s
  | _ => s

/-- SLOT_END (R4, R109, R124, R125). -/
def execSlotEnd (k : Nat) (s : State) : Result :=
  match s.cfg with
  | some c =>
    if k < c.slots then
      .next (s.phase c (c.placeSlotEnd k) (c.slotEndAt k) (fun s1 => s1.engineSlotEnd c k))
    else .next s
  | none => .next s

/-! ### Edges -/

/-- The time `offset`, `fine` after the origin comes (R122): whole tu by the frame timer value, and `fine` tenths of the
tu's D REFCLK periods by the prescaler. -/
def State.edgeTime (s : State) (c : Settings) (r : RunningPattern) (offset fine : Nat) : State :=
  s.advanceClock c (r.origin + offset) (fine * c.divider / 10)

/-- PATTERN_EDGE (R122, R123): the edges whose time has come are applied in pool order, those of one time together (log
entry 16). Where no edge of the running pattern that remains has that time, nothing happens. -/
def execPatternEdge (offset fine : Nat) (s : State) : Result :=
  match s.cfg, s.engine.mode with
  | some c, .running r =>
    if ((c.patternEdges r.pattern).drop r.next).any (fun e => e.offset == offset && e.fine == fine) then
      let s1 := s.edgeTime c r offset fine
      .next { s1 with engine := s1.engine.play c r offset fine }
    else .next s
  | _, _ => .next s

/-! ### Trigger inputs -/

/-- The class that names an input, if any; the image refuses two (R99, R142). -/
def Settings.classFor (c : Settings) (input : TrgInput) : Option Nat :=
  (List.range 4).find? (fun i => (c.classOf i).source == (match input with
    | .trga => Source.trga
    | .trgb => Source.trgb))

/-- The filter of an input (R161). -/
def DemandQueue.filterOf (q : DemandQueue) : TrgInput → TrgFilter
  | .trga => q.trga
  | .trgb => q.trgb

/-- The filter of an input, set (R161). -/
def DemandQueue.setFilter (q : DemandQueue) (input : TrgInput) (f : TrgFilter) : DemandQueue :=
  match input with
  | .trga => { q with trga := f }
  | .trgb => { q with trgb := f }

/-- An entry accepted at the back with the next request number (R101, R103). -/
def DemandQueue.accept (q : DemandQueue) (cls : Nat) : DemandQueue :=
  { q with
    entries := q.entries ++ [{ request := q.nextRequest, cls := cls, age := 0, bound := none }]
    nextRequest := q.nextRequest + 1 }

/-- An arrival for class `cls` (R103): accepted in MEMBER with fewer than 12 entries; with 12 an overrun with its record;
in the other states that have classes, a refused trigger. -/
def State.arrive (s : State) (cls : Nat) : State :=
  if s.station = .member then
    if s.demand.entries.length < 12 then { s with demand := s.demand.accept cls }
    else (s.count .overruns 1).offer { kind := .overrun, frame := s.timer.frame, cls := some cls }
  else if s.station = .loading ∨ s.station = .loadFailed then s
  else s.count .refusedTriggers 1

/-- TRIGGER_ARRIVAL (R103, R161): the filter takes the samples and decides whether they bring an arrival; an input that no class names is
ignored. Before load completion and in LOAD_FAILED the inputs are not sampled. -/
def execTriggerArrival (input : TrgInput) (lowSamples highSamples : Nat) (s : State) : Result :=
  match s.cfg with
  | some c =>
    let f := filterPulse c.divider (s.demand.filterOf input) lowSamples highSamples
    let s1 := { s with demand := s.demand.setFilter input f.1 }
    match f.2, c.classFor input with
    | true, some cls => .next (s1.arrive cls)
    | _, _ => .next s1
  | none => .next s

end Sys2Proof.Machine
end

