-- ==== Sys2Proof/Machine/FrameEvents.lean ====
section
/-! DEFINITION. The commands of the Frame Timer (01): MARK, EXPIRY, FRM_PULL_END, FRM_RISING_EDGE, BUS_FAULT, SELF_START. -/

namespace Sys2Proof.Machine

/-- MARK (R9, R12): a falling edge of FRM. In SEARCHING, RUNNING and HOLDING it is taken as a mark. In STOPPED it is not
taken: only the level is noted. A line that is low already cannot fall (R8, log entry 7). -/
def execMark (s : State) : Result :=
  if s.timer.frmLow then .next s
  else match s.cfg with
    | some c =>
      if s.timer.mode.monitors then .next (s.takeMark c (s.markClass c) false false)
      else .next { s with timer := { s.timer with frmLow := true } }
    | none => .next { s with timer := { s.timer with frmLow := true } }

/-- Whether the station pulls FRM at its expiry (R6, R40). -/
def StationState.pullsAtExpiry : StationState → Bool
  | .joining => true
  | .member => true
  | .leaving => true
  | _ => false

/-- EXPIRY (R6, R7): a station that pulls takes its own normal mark; any other holds at L. -/
def execExpiry (s : State) : Result :=
  match s.cfg with
  | some c =>
    .next (s.phase c c.placeExpiry c.frameLength (fun s1 =>
      if s1.station.pullsAtExpiry then s1.takeMark c .normal false true
      else { s1 with timer := { s1.timer with mode := .holding, value := c.frameLength } }))
  | none => .next s

/-- FRM_PULL_END (R8): at frame timer value 8 the own pull ends. The line rises when nobody else holds it: FRM_RISING_EDGE. -/
def execFrmPullEnd (s : State) : Result :=
  match s.cfg with
  | some c =>
    if s.timer.ownPull then
      let s1 := s.advanceTo c 8
      .next { s1 with timer := { s1.timer with ownPull := false } }
    else .next s
  | none => .next s

/-- FRM rises (R14, R16): the mark-low duration is 0 and FAULTED becomes SEARCHING. -/
def FrameTimer.rise (t : FrameTimer) : FrameTimer :=
  { t with
    frmLow := false
    markLow := 0
    lapsed := []
    mode := if t.mode = .faulted then .searching else t.mode }

/-- A self-start has been deferred until FRM rises (R19). -/
def State.selfStartDue (s : State) (c : Settings) : Bool :=
  s.station == .listening && s.timer.mode != .stopped && decide (2 * c.frameLength ≤ s.timer.silence)

/-- FRM_RISING_EDGE (R14, R16, R19). While the station pulls, the line cannot rise (R8). -/
def execFrmRisingEdge (s : State) : Result :=
  if s.timer.frmLow ∧ s.timer.ownPull = false then
    let s1 := { s with timer := s.timer.rise }
    match s.cfg with
    | some c => if s.selfStartDue c then .next (s1.selfStart c) else .next s1
    | none => .next s1
  else .next s

/-- The change of station state at a bus fault (R15, R48, R50). -/
def State.faultStation (s : State) : State :=
  match s.station with
  | .joining => s.enterListening
  | .member => s.enterListening
  | .leaving => s.enterOffline
  | .listening => { s with membership := { s.membership with observation := .unaligned } }
  | _ => s

/-- The bus fault of R15: count and record, the station state, the running pattern (R128), the table (R68), the
transmission (R27), and FAULTED. -/
def State.takeBusFault (s : State) (c : Settings) : State :=
  let s1 := (s.count .busFaults 1).offer { kind := .busFault, frame := s.timer.frame }
  let s2 := (s1.faultStation).abortEngine c
  { s2 with
    timer := { s2.timer with mode := .faulted, value := 0, markLow := 0, emitted := 0, lapsed := [] }
    bus := { s2.bus with tx := .idle, window := none }
    alloc := Allocator.cleared c }

/-- BUS_FAULT (R15): the mark-low duration reaches 65. It needs FRM low and the monitor running, and cannot come during the
station's own pull. -/
def execBusFault (s : State) : Result :=
  match s.cfg with
  | some c =>
    if s.timer.mode.monitors ∧ s.timer.frmLow ∧ s.timer.ownPull = false then
      .next ((s.elapse c (65 - s.timer.markLow)).takeBusFault c)
    else .next s
  | none => .next s

/-- SELF_START (R18): the silence timer reaches 2L with FRM high, in LISTENING. With FRM low it is deferred: the silence timer
is held at 2L and FRM_RISING_EDGE makes the self-start (R19). FRM can be low so long only in FAULTED; in any other mode its
fall has been taken as a mark, which restarted the silence timer, and the self-start does not take place (R19, R15; log
entry 32). -/
def execSelfStart (s : State) : Result :=
  match s.cfg with
  | some c =>
    if s.station = .listening ∧ s.timer.mode ≠ .stopped then
      if s.timer.frmLow = false then .next (s.selfStart c)
      else if s.timer.mode = .faulted then .next (s.elapse c (2 * c.frameLength - s.timer.silence))
      else .next s
    else .next s
  | none => .next s

end Sys2Proof.Machine
end

