-- ==== Sys2Proof/Machine/Image.lean ====
section
/-! DEFINITION. The start-up image (08): granules and headers, the choice of copies, the sections and the tests of R138 and
R141 to R143, as functions of the bytes read. -/

namespace Sys2Proof.Machine

/-- A granule passes its check when it has 16 bytes and the CRC-8 of the first 15 equals the last (R136). -/
def granulePasses (bytes : List Byte) : Bool := bytes.length == 16 && crc8 (bytes.take 15) == byteAt bytes 15

/-- The address of granule `i` of copy `c` (R135). -/
def granuleAddress (copy i : Nat) : Nat := copy * 0x010000 + 16 * i

/-- The bytes sent on BDO for a read at an address: 03h and the address, high byte first (R134). -/
def bootCommand (address : Nat) : List Byte :=
  [0x03, byteOf (address / 65536), byteOf (address / 256), byteOf address]

/-- A header is good: its granule passes and its marker is 4Bh 57h (R137). -/
def HeaderRead.good (h : HeaderRead) : Bool := h.passes && byteAt h.data 0 == 0x4B && byteAt h.data 1 == 0x57

/-- The image serial of a header (§8.3.1). -/
def HeaderRead.serial (h : HeaderRead) : Half := halfAt h.data 3

/-- The total granules of a header (§8.3.1). -/
def HeaderRead.total (h : HeaderRead) : Nat := (byteAt h.data 5).toNat

/-- The choice of R137: the chosen copy and the fallback copy, if any. -/
def chooseHeader (h0 h1 : HeaderRead) : Option (Nat × Option Nat) :=
  if h0.good then some (0, if h1.good && h1.serial == h0.serial then some 1 else none)
  else if h1.good then some (1, none)
  else none

/-- The tests of R138 on the chosen header, in order; the reason of the first that fails. -/
def headerFailure (h : HeaderRead) : Option LoadReason :=
  if byteAt h.data 2 ≠ 0x01 ∨ (h.data.drop 9).any (· != 0x00) then some .badFormat
  else if h.total < 4 ∨ 128 < h.total ∨ byteAt h.data 6 ≠ 1 ∨ byteAt h.data 7 ≠ 2 ∨
      (byteAt h.data 8).toNat ≠ h.total - 4 then some .param
  else if (byteAt h.data 8).toNat < 4 then some .param
  else none

/-! ### Sections of the merged image (R141–R143) -/

/-- The data bytes of granule `i` of the merged image. -/
def granuleData (image : List MergedGranule) (i : Nat) : List Byte := ((image.map (·.data)).getD i [])

/-- The shared section (R141). -/
def sharedSection (image : List MergedGranule) : List Byte := granuleData image 1

/-- The station section (R141). -/
def stationSection (image : List MergedGranule) : List Byte := granuleData image 2 ++ granuleData image 3

/-- The pattern section (R143). -/
def patternSection (image : List MergedGranule) : List Byte := ((image.drop 4).map (·.data)).flatten

/-- A byte as a number. -/
def numAt (bytes : List Byte) (i : Nat) : Nat := (byteAt bytes i).toNat

/-- A two-byte field as a number. -/
def wordAt (bytes : List Byte) (i : Nat) : Nat := (halfAt bytes i).toNat

/-- The shared parameters, D, the group and the zero bytes are in range (R141). -/
def paramsInRange (image : List MergedGranule) : Bool :=
  let sh := sharedSection image
  let st := stationSection image
  decide (2 ≤ numAt sh 0 ∧ numAt sh 0 ≤ 16) && decide (4 ≤ numAt sh 1 ∧ numAt sh 1 ≤ 32) &&
    decide (1 ≤ numAt sh 2 ∧ numAt sh 2 ≤ 4) && decide (2 ≤ numAt sh 3 ∧ numAt sh 3 ≤ 16) &&
    decide (64 ≤ wordAt sh 4 ∧ wordAt sh 4 ≤ 16383) && decide (256 ≤ wordAt sh 6 ∧ wordAt sh 6 ≤ 4095) &&
    decide (32 ≤ wordAt sh 8 ∧ wordAt sh 8 ≤ 4095) && ((sh.drop 10).all (· == 0x00)) &&
    decide (1 ≤ numAt st 0 ∧ numAt st 0 ≤ 64) && decide (numAt st 1 ≤ 7) && ((st.drop 25).all (· == 0x00))

/-- The source a source byte names (R142); 04h and more name none and are refused by `classFails`. -/
def sourceOf (b : Byte) : Source :=
  if b = 0x01 then .trga else if b = 0x02 then .trgb else if b = 0x03 then .periodic else .none

/-- The source byte of class `i` (R141, R142). -/
def sourceByte (image : List MergedGranule) (i : Nat) : Byte := byteAt (stationSection image) (2 + 5 * i)

/-- Class record `i` (R142). -/
def classRecord (image : List MergedGranule) (i : Nat) : ClassRecord :=
  let st := stationSection image
  { source := sourceOf (sourceByte image i), pattern := numAt st (3 + 5 * i), priority := numAt st (4 + 5 * i),
    limit := numAt st (5 + 5 * i), maxAge := numAt st (6 + 5 * i) }

/-- Class record `i` fails a test of R142. -/
def classFails (image : List MergedGranule) (i : Nat) : Bool :=
  let r := classRecord image i
  decide (4 ≤ (sourceByte image i).toNat) ||
    ((r.source == .trga || r.source == .trgb) &&
      (List.range i).any (fun j => (classRecord image j).source == r.source)) ||
    (r.source != .none &&
      (decide (15 < r.pattern) || decide (3 < r.priority) || decide (r.limit < 1 ∨ 4 < r.limit) ||
        decide (r.maxAge < 1 ∨ 31 < r.maxAge)))

/-- The number of edges the pattern section holds: E = min(128, floor((15·P − 48) / 4)) (R143). -/
def edgeTotal (image : List MergedGranule) : Nat := min 128 ((15 * (image.length - 4) - 48) / 4)

/-- Edge `i` of the pattern section (R143). -/
def edgeRecord (image : List MergedGranule) (i : Nat) : Edge :=
  let p := patternSection image
  { offset := wordAt p (48 + 4 * i), fine := numAt p (50 + 4 * i), output := numAt p (51 + 4 * i) / 2,
    level := (byteAt p (51 + 4 * i)).getLsbD 0 }

/-- The edge pool: E loaded edges, the other entries of all fields 0 (R143). -/
def edgePool (image : List MergedGranule) : List Edge :=
  (List.range (edgeTotal image)).map (edgeRecord image) ++
    List.replicate (128 - edgeTotal image) { offset := 0, fine := 0, output := 0, level := false }

/-- Directory entry `p` of the pattern section (R143). -/
def patternRecord (image : List MergedGranule) (p : Nat) : PatternRecord :=
  let s := patternSection image
  { span := numAt s (3 * p), first := numAt s (3 * p + 1), count := numAt s (3 * p + 2) }

/-- The edges of a pattern, in pool order (R115). -/
def edgesOf (pool : List Edge) (r : PatternRecord) : List Edge :=
  if r.count = 0 then [] else (pool.drop r.first).take r.count

/-- Edge `a` comes no later than edge `b` (R116): by offset, then by fine delay. -/
def Edge.notAfter (a b : Edge) : Bool := decide (a.offset < b.offset ∨ (a.offset = b.offset ∧ a.fine ≤ b.fine))

/-- The edges stand in non-decreasing order of time (R116). -/
def edgesOrdered : List Edge → Bool
  | [] => true
  | [_] => true
  | a :: b :: rest => a.notAfter b && edgesOrdered (b :: rest)

/-- Test 1 of R143: every loaded edge has fine delay 0–9 and an output-and-level byte 0–15. -/
def edgesInRange (image : List MergedGranule) : Bool :=
  (List.range (edgeTotal image)).all (fun i =>
    decide ((edgeRecord image i).fine ≤ 9) && decide (numAt (patternSection image) (51 + 4 * i) ≤ 15))

/-- Test 2 of R143 on one directory entry: span, edge count, and the run inside the loaded edges. -/
def directoryInRange (total : Nat) (r : PatternRecord) : Bool :=
  decide (r.span = 1 ∨ r.span = 2) && decide (r.count ≤ 32) && (r.count == 0 || decide (r.first + r.count ≤ total))

/-- Test 3 of R143 on one pattern: offsets below span·Ls, edges in order. -/
def patternPlayable (slotLen : Nat) (pool : List Edge) (r : PatternRecord) : Bool :=
  (edgesOf pool r).all (fun e => decide (e.offset < r.span * slotLen)) && edgesOrdered (edgesOf pool r)

/-- The three tests of R143. -/
def patternsPass (image : List MergedGranule) : Bool :=
  edgesInRange image &&
    (List.range 16).all (fun p => directoryInRange (edgeTotal image) (patternRecord image p)) &&
    (List.range 16).all (fun p =>
      patternPlayable (wordAt (sharedSection image) 4) (edgePool image) (patternRecord image p))

/-- The tests of CHECKING in their order, with the station number `sid`; the reason of the first that fails (R141–R143). -/
def checkingFailure (image : List MergedGranule) (sid : BitVec 4) : Option LoadReason :=
  if !paramsInRange image then some .param
  else if numAt (sharedSection image) 0 ≤ sid.toNat then some .stationRange
  else if (List.range 4).any (classFails image) then some .cls
  else if !patternsPass image then some .pattern
  else none

/-- The fingerprint: the CRC-16 of the 15 data bytes of granule 1 (R144). -/
def imageFingerprint (image : List MergedGranule) : Half := crc16 (sharedSection image)

/-- What the blocks take from the merged image (R141–R144). -/
def settingsOf (image : List MergedGranule) : Settings :=
  let sh := sharedSection image
  let st := stationSection image
  { windows := numAt sh 0, slots := numAt sh 1, channels := numAt sh 2, bitTu := numAt sh 3, slotLen := wordAt sh 4,
    gap := wordAt sh 6, tail := wordAt sh 8, divider := numAt st 0, group := numAt st 1,
    classes := (List.range 4).map (classRecord image), enableMask := byteAt st 22, idleMask := byteAt st 23,
    invertMask := byteAt st 24, patterns := (List.range 16).map (patternRecord image), edges := edgePool image,
    fingerprint := imageFingerprint image }

end Sys2Proof.Machine
end

