-- ==== Sys2Proof/Machine/Flags.lean ====
section
/-! DEFINITION. The levels the part shows at its pins (10 R160), as functions of the state: LINK and FAULT (R40), EVT (R155),
FRM and DAT (R8, R21), the drive outputs, CHSEL and EXPOSING (R117, R118, R121, R126), LDO (R147), and BSEL, BCLK and
BDO (R134).
"Asserted" is the active level of the signal summary. -/

namespace Sys2Proof.Machine

/-- LINK is asserted while the state is MEMBER (R40). -/
def State.link (s : State) : Bool := s.station == .member

/-- FAULT is asserted from entry to LOAD_FAILED or ISOLATED until RST (R40, R160). -/
def State.faultPin (s : State) : Bool := s.station == .loadFailed || s.station == .isolated

/-- EVT is asserted while the event queue holds a record (R155). -/
def State.evt (s : State) : Bool := !s.events.records.isEmpty

/-- The station pulls FRM low (R8). -/
def State.frmPulled (s : State) : Bool := s.timer.ownPull

/-- The bit of the own window that stands at the present frame timer value: bits 0 and 1 are the lead-in (R25). -/
def State.txBit (s : State) (c : Settings) (kind : WindowKind) : Nat :=
  (s.timer.value - c.windowStart kind s.me) / c.bitTu

/-- The station pulls DAT low: it is sending a 0 bit of its own message (R21). -/
def State.datPulled (s : State) : Bool :=
  match s.cfg, s.bus.tx with
  | some c, .sending kind bytes => !drivenHigh (some bytes) (s.txBit c kind)
  | _, _ => false

/-- The drive output DRVi: high-impedance (`none`) when the engine is UNLOADED or the output is disabled, else the logical
level XOR invert (R117, R118). -/
def State.drv (s : State) (i : Nat) : Option Bool :=
  match s.engine.mode, s.cfg with
  | .unloaded, _ => none
  | _, none => none
  | _, some c =>
    if c.enableMask.getLsbD i then some (s.engine.levels.getLsbD i != c.invertMask.getLsbD i) else none

/-- EXPOSING: high-impedance when UNLOADED, asserted while RUNNING, but for the REFCLK period of rest between two exposures
(R118, R121, R126). -/
def State.exposing (s : State) : Option Bool :=
  match s.engine.mode with
  | .unloaded => none
  | .idle => some false
  | .running _ => some (!s.engine.gap)

/-- The channel CHSEL0–CHSEL1 show: high-impedance when UNLOADED, the running exposure's channel, else 0 (R118, R126). -/
def State.chsel (s : State) : Option Nat :=
  match s.engine.mode with
  | .unloaded => none
  | .idle => some 0
  | .running r => some (if s.engine.gap then 0 else r.channel)

/-- The two CHSEL pins: CHSEL0 shows bit 0 of the channel and CHSEL1 bit 1 (R118). -/
def State.chselPins (s : State) : Option (Bool × Bool) := s.chsel.map (fun n => (n.testBit 0, n.testBit 1))

/-- The result code of the last-command register (R149). -/
def CommandResult.code : CommandResult → Nat
  | .none => 0
  | .accepted => 1
  | .refused => 2

/-- The leading byte: command count in bits 7–4, result in bits 3–0 (R149). -/
def LocalPort.leading (p : LocalPort) : Byte := byteOf (p.commandCount.toNat * 16 + p.commandResult.code)

/-- The byte that transfer `n` of a response shifts out: the response bytes in order and FFh after the last (R148). -/
def Response.byte (r : Response) (n : Nat) : Byte := r.bytes.getD n 0xFF

/-- The byte on LDO: the leading byte during the code byte, then the bytes of the response; high-impedance in IDLE and
ABANDONED (R147, R148, R149). -/
def LocalPort.ldo (p : LocalPort) : Option Byte :=
  match p.state with
  | .code => some p.leading
  | .responding r => some (r.byte r.shifted)
  | .idle => none
  | .abandoned => none

/-- The level of LDO (R147): each byte goes out most significant bit first and LDO changes on the falling edge of LCLK.
`falls` counts the falling edges since the last byte was complete: 0–7 in CODE, whose first bit is driven from the fall of
LSEL, and 0–8 in RESPONDING, where LDO shows the last bit of the byte before until the first of them. -/
def LocalPort.ldoLevel (p : LocalPort) (falls : Nat) : Option Bool :=
  match p.state with
  | .code => some (p.leading.getLsbD (7 - falls))
  | .responding r =>
    if falls = 0 then some ((if r.shifted = 0 then p.leading else r.byte (r.shifted - 1)).getLsbD 0)
    else some ((r.byte r.shifted).getLsbD (8 - falls))
  | .idle => none
  | .abandoned => none

/-! ### The boot port (R134) -/

/-- BSEL is asserted while a boot port read is in progress, and not in the pause before it (R134). -/
def ImageLoader.bselAsserted (l : ImageLoader) : Bool := l.boot.isSome && l.bootPause == 0

/-- BCLK: one quarter of REFCLK while a read is in progress, low in the first half of each period and high in the second
(DEDUCED, log entry 36); low where there is no read (R134). -/
def ImageLoader.bclk (l : ImageLoader) : Bool := l.bselAsserted && decide (2 ≤ l.bootClock % 4)

/-- The bytes that go out on BDO in the read in progress, or in the one that comes next: 03h and the granule's address (R134,
R135). -/
def ImageLoader.bdoBytes (l : ImageLoader) : List Byte :=
  match l.boot with
  | some (copy, i) => bootCommand (granuleAddress copy i)
  | none => []

/-- BDO: the bits of `bdoBytes`, most significant first, a new one at each falling edge of BCLK; low where there is no read
(R134), and after the last bit of the address (DESIGN CHOICE, log entry 36). -/
def ImageLoader.bdo (l : ImageLoader) : Bool :=
  l.bselAsserted && (l.bdoBytes.flatMap bitsMsbFirst).getD (l.bootClock / 4) false

end Sys2Proof.Machine
end

