-- ==== Sys2Proof/Machine/Responses.lean ====
section
/-! DEFINITION. The bytes of the local port's responses (09 §9.2) and of an event record (R157). -/

namespace Sys2Proof.Machine

/-- Codes of the own station state (09 §9.2). -/
def StationState.code : StationState → Nat
  | .loading => 0
  | .loadFailed => 1
  | .listening => 2
  | .joining => 3
  | .member => 4
  | .leaving => 5
  | .offline => 6
  | .isolated => 7

/-- Codes of the verdict (09 §9.2). -/
def Verdict.code : Verdict → Nat
  | .none => 0
  | .expose => 1
  | .holdoff => 2

/-- Codes of the load result (09 §9.2). -/
def LoadResult.code : LoadResult → Nat
  | .none => 0
  | .success => 1
  | .failure => 2

/-- Codes of the load reason (09 §9.2). -/
def LoadReason.code : LoadReason → Nat
  | .none => 0
  | .noHeader => 1
  | .badFormat => 2
  | .param => 3
  | .serial _ => 4
  | .granule _ => 5
  | .stationRange => 6
  | .cls => 7
  | .pattern => 8

/-- The granule index that SERIAL and GRANULE carry (R133, R150). -/
def LoadReason.index : LoadReason → Option Nat
  | .serial i => some i
  | .granule i => some i
  | _ => Option.none

/-- READ STATUS (R150): twelve bytes. -/
def State.statusBytes (s : State) : List Byte :=
  [byteOf s.station.code, byteOf s.agree.verdict.code, s.timer.frame, byteOf s.me, byteOf s.memberView.length,
    byteOf s.loader.result.code, byteOf s.loader.reason.code, optByte s.loader.reason.index, byteOf s.loader.repaired,
    optByte (if s.station = .isolated then s.membership.isolation.map IsolationReason.code else none),
    byteOf s.events.records.length, flagByte s.events.overflow]

/-- Codes of the record kinds (R157). -/
def EventKind.code : EventKind → Nat
  | .exposed => 0x01
  | .aborted => 0x02
  | .expired => 0x03
  | .cancelled => 0x04
  | .overrun => 0x05
  | .holdoff => 0x06
  | .runt => 0x07
  | .busFault => 0x08
  | .seqAdopted => 0x09
  | .collision => 0x0A
  | .peerJoined => 0x0B
  | .peerLeft => 0x0C
  | .peerLost => 0x0D
  | .admitted => 0x0E
  | .joinTimeout => 0x0F
  | .left => 0x10
  | .isolated => 0x11

/-- The eight bytes of an event record (R157): bit 7 of byte 0 marks an absent request number. -/
def EventRecord.bytes (r : EventRecord) : List Byte :=
  [byteOf (r.kind.code + (if r.request.isSome then 0 else 128)), r.frame, optByte r.peer, optByte r.cls]
    ++ optHalf r.request ++ [optByte r.slot, optByte r.channel]

/-- READ EVENT (R151): the oldest record, or the *none* record, eight bytes of FFh. -/
def EventQueue.eventBytes (q : EventQueue) : List Byte :=
  match q.records with
  | r :: _ => r.bytes
  | [] => List.replicate 8 0xFF

/-- The code of a peer state (09 §9.2). -/
def PeerState.code : PeerState → Nat
  | .absent => 0
  | .joining1 => 1
  | .joining2 => 1
  | .member => 2
  | .missing1 => 3
  | .missing2 => 3

/-- The count of a peer entry, 0 where JOINING and MISSING do not give one (R43, R152). -/
def PeerState.count : PeerState → Nat
  | .absent => 0
  | .joining1 => 1
  | .joining2 => 2
  | .member => 0
  | .missing1 => 1
  | .missing2 => 2

/-- The two bytes of a peer entry (R152). -/
def PeerEntry.bytes (p : PeerEntry) : List Byte :=
  [byteOf (p.state.code * 16 + p.state.count), byteOf (p.heard.toNat * 128 + p.group)]

/-- READ PEERS (R152): sixteen entries, the own one reading SELF, count 0, flag clear and group 0. -/
def State.peersBytes (s : State) : List Byte :=
  (List.range 16).flatMap (fun k => if k = s.me then [0x40, 0x00] else (s.peer k).bytes)

/-- The cells of a READ TABLE: the record's, or FFh for every cell of a table it does not hold; none before a successful
load (R148, R152). -/
def State.publishedCells (s : State) : List Byte :=
  match s.agree.published.cells, s.cfg with
  | some t, _ => tableBytes t
  | none, some c => List.replicate (c.slots * c.channels) 0xFF
  | none, none => []

/-- READ TABLE (R98, R152): verdict, frame number, member bitmap, digest, cells. -/
def State.tableResponse (s : State) : List Byte :=
  [byteOf s.agree.published.verdict.code, s.agree.published.frame.getD 0xFF] ++ optHalf s.agree.published.bitmap ++
    optHalf s.agree.published.digest ++ s.publishedCells

/-- The five bytes of an entry position of READ QUEUE (R153). -/
def DemandEntry.bytes (e : DemandEntry) : List Byte :=
  halfBytes e.request ++ [byteOf e.cls, byteOf e.age, optByte (e.bound.map (fun p => p.1 * 4 + p.2))]

/-- READ QUEUE (R153): the number of entries and twelve positions, FFh beyond the entries. -/
def DemandQueue.bytes (q : DemandQueue) : List Byte :=
  byteOf q.entries.length :: (q.entries.flatMap DemandEntry.bytes ++ List.replicate (5 * (12 - q.entries.length)) 0xFF)

/-- READ COUNTERS (R153, R158): thirteen counters, two bytes each. -/
def Counters.bytes (k : Counters) : List Byte :=
  [k.damaged, k.foreign, k.mismatches, k.collisions, k.runtMarks, k.busFaults, k.holdoffs, k.exposures, k.aborts,
    k.expiries, k.overruns, k.refusedTriggers, k.unmetGrants].flatMap halfBytes

/-- The one-byte response PENDING (R148). -/
def pendingByte : Byte := 0xC3

/-- The one-byte response REJECTED (R148). -/
def rejectedByte : Byte := 0xEE

end Sys2Proof.Machine
end

