-- ==== Sys2Proof/WellFormed.lean ====
section
/-! DEFINITION. Which commands are well formed: operands a pin, a frame or an image can bring. The check looks at the
command alone; whether the part can take it is a matter of its state (log entry 2). -/

namespace Sys2Proof

/-- The nine code bytes that name a command of the local port (R148). -/
def portCodes : List Byte := [0x01, 0x02, 0x03, 0x04, 0x05, 0x06, 0x10, 0x20, 0x21]

/-- The times of a line's level changes rise strictly. -/
def DatLine.rising : List Nat → Bool
  | [] => true
  | [_] => true
  | a :: b :: rest => decide (a < b) && DatLine.rising (b :: rest)

/-- The check on a command's operands.
- a granule has 16 bytes (R134);
- window numbers are 0–15 and slot numbers 0–31 (§0.6.4);
- a bit of an own window is a lead-in bit or one of the at most 140 bits of a message (R25);
- an edge's offset is below 2·16383 and its fine delay 0–9 (R115);
- a rejected code names no command (R148). -/
def Instr.wellFormed : Instr → Bool
  | .rstAsserted _ => true
  | .rstNegated _ => true
  | .granuleRead bytes => bytes.length == 16
  | .loadCompletionSuccess _ _ => true
  | .loadCompletionFailure => true
  | .mark => true
  | .expiry => true
  | .frmPullEnd => true
  | .frmRisingEdge => true
  | .busFault => true
  | .selfStart => true
  | .claimWindowStart k => decide (k < 16)
  | .digestWindowStart k => decide (k < 16)
  | .messageSent => true
  | .collision bit => decide (bit < 142)
  | .windowSettle line => DatLine.rising line.toggles
  | .claimPhaseClose => true
  | .allocationComplete => true
  | .digestPhaseClose => true
  | .slotStart k => decide (k < 32)
  | .slotEnd k => decide (k < 32)
  | .patternEdge offset fine => decide (offset < 32766) && decide (fine < 10)
  | .triggerArrival _ _ _ => true
  | .transactionStart => true
  | .transactionEnd => true
  | .readStatus => true
  | .readEvent => true
  | .readPeers => true
  | .readTable => true
  | .readQueue => true
  | .readCounters => true
  | .clearCounters => true
  | .leave => true
  | .rejoin => true
  | .rejectedCode code => !portCodes.contains code
  | .leadInEnd => true
  | .commandCodeComplete _ => true
  | .responseByteShiftedOut => true

end Sys2Proof
end

