-- ==== Sys2Proof/Machine/Port.lean ====
section
/-! DEFINITION. The commands of the local port (09): transactions, reads, commands. -/

namespace Sys2Proof.Machine

/-! ### Codes -/

/-- The code byte is complete, with this response (R148). -/
def State.respond (s : State) (kind : ResponseKind) (bytes : List Byte) : State :=
  { s with port := { s.port with state := .responding { kind := kind, bytes := bytes, shifted := 0 } } }

/-- TRANSACTION_START (R147): LSEL falls. In IDLE a transaction begins; while RST is asserted the port is ABANDONED. -/
def execTransactionStart (s : State) : Result :=
  if s.port.lselLow then .next s
  else .next { s with port := { s.port with
    lselLow := true
    state := if s.rstLow then .abandoned else if s.port.state = .idle then .code else s.port.state } }

/-- The port classifies the code byte and fixes the whole response (R148): the snapshot of a read, PENDING for a command, which
is recorded, and REJECTED for any other code. The snapshot of READ STATUS begins the watch for discards that R150 clears the
overflow flag by. -/
def State.classifyCode (s : State) (code : Byte) : State :=
  match portCodeOf code with
  | .readStatus => ({ s with events := { s.events with discarded := false } }).respond .status s.statusBytes
  | .readEvent => s.respond (.event (!s.events.records.isEmpty)) s.events.eventBytes
  | .readPeers => s.respond .peers s.peersBytes
  | .readTable => s.respond .table s.tableResponse
  | .readQueue => s.respond .queue s.demand.bytes
  | .readCounters => s.respond .counters s.counters.bytes
  | .command c => s.respond (.command c) [pendingByte]
  | .other => s.respond .rejected [rejectedByte]

/-- The eighth rising edge of LCLK in CODE: the code byte is complete (R147, R148). In another transaction state no code byte
is. -/
def State.completeCode (s : State) (code : Byte) : State := if s.port.state = .code then s.classifyCode code else s

/-- READ_STATUS (R148, R150): the code byte 01h is complete. -/
def execReadStatus (s : State) : Result := .next (s.completeCode 0x01)

/-- READ_EVENT (R148, R151): the code byte 02h is complete. -/
def execReadEvent (s : State) : Result := .next (s.completeCode 0x02)

/-- READ_PEERS (R148, R152): the code byte 03h is complete. -/
def execReadPeers (s : State) : Result := .next (s.completeCode 0x03)

/-- READ_TABLE (R98, R148, R152): the code byte 04h is complete. -/
def execReadTable (s : State) : Result := .next (s.completeCode 0x04)

/-- READ_QUEUE (R148, R153): the code byte 05h is complete. -/
def execReadQueue (s : State) : Result := .next (s.completeCode 0x05)

/-- READ_COUNTERS (R148, R153): the code byte 06h is complete. -/
def execReadCounters (s : State) : Result := .next (s.completeCode 0x06)

/-- COMMAND_CODE_COMPLETE (R148): the code byte of a command is complete. -/
def execCommandCodeComplete (command : PortCommand) (s : State) : Result :=
  .next (s.completeCode (portCommandCode command))

/-- REJECTED_CODE (R148): a code byte that names no command is complete. A byte that names one is no such code (log entry 29). -/
def execRejectedCode (code : Byte) (s : State) : Result :=
  if portCodes.contains code then .next s else .next (s.completeCode code)

/-- RESPONSE_BYTE_SHIFTED_OUT (R147): one more transfer of the response is complete. -/
def execResponseByteShiftedOut (s : State) : Result :=
  match s.port.state with
  | .responding r =>
    .next { s with port := { s.port with state := .responding { r with shifted := r.shifted + 1 } } }
  | _ => .next s

/-! ### Commands -/

/-- A LEAVE is taken (R61). -/
def State.takeLeave (s : State) : State × CommandResult :=
  match s.station with
  | .member => ({ s with membership := { s.membership with leavePending := true } }, .accepted)
  | .listening => (s.enterOffline, .accepted)
  | .joining => (s.enterOffline, .accepted)
  | _ => (s, .refused)

/-- A REJOIN is taken (R64). -/
def State.takeRejoin (s : State) : State × CommandResult :=
  match s.station with
  | .offline => (s.enterListening, .accepted)
  | .member =>
    if s.membership.leavePending then
      ({ s with membership := { s.membership with leavePending := false } }, .accepted)
    else (s, .refused)
  | _ => (s, .refused)

/-- A command is taken (R154): CLEAR COUNTERS sets the thirteen counters to 0 and is ACCEPTED in every state. -/
def State.takeCommand (s : State) : PortCommand → State × CommandResult
  | .clearCounters => ({ s with counters := Counters.zero }, .accepted)
  | .leave => s.takeLeave
  | .rejoin => s.takeRejoin

/-- The last-command register after a command is taken (R149). -/
def LocalPort.note (p : LocalPort) (r : CommandResult) : LocalPort :=
  { p with commandCount := p.commandCount + 1, commandResult := r }

/-- A command is taken and its result recorded (R149, R154). -/
def State.performCommand (s : State) (c : PortCommand) : State :=
  let r := s.takeCommand c
  { r.1 with port := r.1.port.note r.2 }

/-- The end-of-transaction action (R147): the overflow flag when all twelve bytes of READ STATUS were shifted out (R150), the
removal of the delivered record when all eight bytes of READ EVENT were (R151), a command (R154). -/
def State.endAction (s : State) : State :=
  match s.port.state with
  | .responding r =>
    match r.kind with
    | .status => if 12 ≤ r.shifted then { s with events := { s.events with overflow := s.events.discarded } } else s
    | .event true => if 8 ≤ r.shifted then { s with events := { s.events with records := s.events.records.tail } } else s
    | .command c => s.performCommand c
    | _ => s
  | _ => s

/-- LSEL rises (R147): the action, then IDLE, with LDO high-impedance. -/
def State.endTransaction (s : State) : State :=
  let s1 := s.endAction
  { s1 with port := { s1.port with state := .idle, lselLow := false } }

/-- The command recorded in the transaction in progress (R148). -/
def LocalPort.recorded (p : LocalPort) : Option PortCommand :=
  match p.state with
  | .responding r => match r.kind with
    | .command c => some c
    | _ => none
  | _ => none

/-- TRANSACTION_END (R147): LSEL rises, in any transaction state. -/
def execTransactionEnd (s : State) : Result :=
  if s.port.lselLow then .next s.endTransaction else .next s

/-- CLEAR_COUNTERS (R149, R154): LSEL rises and ends a transaction whose recorded command it is (log entry 20). -/
def execClearCounters (s : State) : Result :=
  if s.port.lselLow ∧ s.port.recorded = some .clearCounters then .next s.endTransaction else .next s

/-- LEAVE (R61, R149, R154). -/
def execLeave (s : State) : Result :=
  if s.port.lselLow ∧ s.port.recorded = some .leave then .next s.endTransaction else .next s

/-- REJOIN (R64, R149, R154). -/
def execRejoin (s : State) : Result :=
  if s.port.lselLow ∧ s.port.recorded = some .rejoin then .next s.endTransaction else .next s

end Sys2Proof.Machine
end

