-- ==== Sys2Proof/Machine/ResetAndImage.lean ====
section
/-! DEFINITION. RST and the start-up image: RST_ASSERTED, RST_NEGATED, GRANULE_READ, LOAD_COMPLETION_SUCCESS,
LOAD_COMPLETION_FAILURE. -/

namespace Sys2Proof.Machine

/-- RST is taken as asserted (R2, R21, R42, R69, R85, R114, R119, R133, R146, R147, R155, R158): every block has its RST
value; the port is ABANDONED if LSEL is low and IDLE otherwise; FRM is released (log entry 7). -/
def State.assertReset (s : State) : State :=
  { State.reset with
    timer := { FrameTimer.reset with frmLow := s.timer.frmLow && !s.timer.ownPull }
    port := { LocalPort.reset with
      state := if s.port.lselLow then .abandoned else .idle, lselLow := s.port.lselLow }
    draws := s.draws
    pending := s.pending }

/-- RST_ASSERTED (R42, R162): taken once RST has been low for two consecutive samples; a shorter pulse is not (log entry
6). -/
def execRstAsserted (lowSamples : Nat) (s : State) : Result :=
  if 2 ≤ lowSamples then .next s.assertReset else .next s

/-- RST_NEGATED (R132, R162): after an assertion has been taken, the straps give the station number and the load begins with
the read of granule 0 of copy 0. -/
def execRstNegated (straps : BitVec 4) (s : State) : Result :=
  if s.rstLow then
    .next { s with
      rstLow := false
      sid := straps
      loader := { ImageLoader.reset with state := .headers, boot := some (0, 0) } }
  else .next s

/-- A test has failed: the read ends and load completion with failure is due (R145, log entry 19). -/
def ImageLoader.fail (l : ImageLoader) (why : LoadReason) : ImageLoader := { l with boot := none, failing := some why }

/-- A header as read (R136): its data bytes, and whether the granule's check passed. -/
def headerOf (bytes : List Byte) : HeaderRead := { data := bytes.take 15, passes := granulePasses bytes }

/-- With both headers read, the choice of R137 and the tests of R138; then the first granule of the merge (R135, R140). -/
def ImageLoader.choose (l : ImageLoader) (h0 h1 : HeaderRead) : ImageLoader :=
  match chooseHeader h0 h1 with
  | none => l.fail .noHeader
  | some (primary, fallback) =>
    let h := if primary = 0 then h0 else h1
    let l1 : ImageLoader :=
      { l with
        chosen := some primary
        fallback := fallback
        granules := [{ data := h.data, copy := primary }]
        repaired := l.repaired + primary }
    match headerFailure h with
    | some why => l1.fail why
    | none => { l1 with state := .merging, boot := some (primary, 1) }

/-- The total of the chosen header, which is granule 0 of the merged image (R137, R139). -/
def ImageLoader.total (l : ImageLoader) : Nat := numAt (granuleData l.granules 0) 5

/-- A granule is taken into the merged image from a copy (R139, R140); after the last the state is CHECKING. -/
def ImageLoader.take (l : ImageLoader) (primary copy i : Nat) (bytes : List Byte) : ImageLoader :=
  let l1 : ImageLoader := { l with granules := l.granules ++ [{ data := bytes.take 15, copy := copy }], repaired := l.repaired + copy }
  if i + 1 < l.total then { l1 with boot := some (primary, i + 1) } else { l1 with state := .checking, boot := none }

/-- The merge of granule `i` (R139): a granule that passes is taken; one of the primary copy that fails is read from the
fallback copy if there is one (else SERIAL); one of the fallback copy that fails ends the load (GRANULE). -/
def ImageLoader.merge (l : ImageLoader) (primary copy i : Nat) (bytes : List Byte) : ImageLoader :=
  if granulePasses bytes then l.take primary copy i bytes
  else if copy = primary then
    match l.fallback with
    | some f => { l with boot := some (f, i) }
    | none => l.fail (.serial i)
  else l.fail (.granule i)

/-- The end of a boot port read (R135–R139). -/
def ImageLoader.granule (l : ImageLoader) (bytes : List Byte) : ImageLoader :=
  match l.state, l.boot with
  | .headers, some (0, _) => { l with header0 := some (headerOf bytes), boot := some (1, 0) }
  | .headers, some (_, _) =>
    let l1 : ImageLoader := { l with header1 := some (headerOf bytes) }
    match l.header0 with
    | some h0 => l1.choose h0 (headerOf bytes)
    | none => l1.fail .noHeader
  | .merging, some (copy, i) =>
    match l.chosen with
    | some primary => l.merge primary copy i bytes
    | none => l
  | _, _ => l

/-- BSEL is negated at the end of a read. Before the next one, if there is one, it stays negated for 2 BCLK periods and
`extra` more, of 4 REFCLK periods each (R134; log entry 36). -/
def ImageLoader.pause (l : ImageLoader) (extra : Nat) : ImageLoader :=
  { l with bootPause := if l.boot.isSome then 4 * (2 + extra) else 0, bootClock := 0 }

/-- GRANULE_READ (R134, R136): the bytes of the boot port read in progress; nothing when none is. -/
def execGranuleRead (bytes : List Byte) (s : State) : Result :=
  if s.loader.boot.isSome then
    .next { s with
      loader := (s.loader.granule bytes).pause (Config.bootPause s.draws)
      draws := s.draws + 1 }
  else .next s

/-- The reason for which load completion with failure is due: a test that has failed, or in CHECKING the first that does
(R145). -/
def State.loadFailure (s : State) : Option LoadReason :=
  match s.loader.failing with
  | some why => some why
  | none => if s.loader.state = .checking then checkingFailure s.loader.granules s.sid else none

/-- Load completion with success is due: CHECKING, and every test passes (R144). -/
def State.loadSucceeds (s : State) : Bool := s.loader.state == .checking && s.loadFailure == none

/-- Load completion with success (R144): the blocks take their parts, and the station enters LISTENING (R42). -/
def State.completeLoad (s : State) (trgaHigh trgbHigh : Bool) : State :=
  let c := settingsOf s.loader.granules
  ({ s with
    cfg := some c
    loader := { s.loader with state := .loaded, result := .success, reason := .none }
    timer := { s.timer with mode := .searching, value := 0, prescaler := 0, markLow := 0, silence := 0, emitted := 0, lapsed := [] }
    alloc := Allocator.cleared c
    demand := { s.demand with trga := { high := trgaHigh, run := 0 }, trgb := { high := trgbHigh, run := 0 } }
    engine := PatternEngine.rest c false }).enterListening

/-- LOAD_COMPLETION_SUCCESS (R144, R20, R69, R99, R119, R161). -/
def execLoadCompletionSuccess (trgaHigh trgbHigh : Bool) (s : State) : Result :=
  if s.loadSucceeds then .next (s.completeLoad trgaHigh trgbHigh) else .next s

/-- LOAD_COMPLETION_FAILURE (R145, R42): the result, the reason, FAILED and LOAD_FAILED. -/
def execLoadCompletionFailure (s : State) : Result :=
  match s.loadFailure with
  | some why =>
    .next { s with
      loader := { s.loader with
        state := .failed, result := .failure, reason := why, boot := none, bootPause := 0, bootClock := 0, failing := none }
      membership := { s.membership with station := .loadFailed } }
  | none => .next s

end Sys2Proof.Machine
end

