-- ==== Sys2Proof/Machine/SlotBus.lean ====
section
/-! DEFINITION. The commands of the Bus Interface (02): CLAIM_WINDOW_START, DIGEST_WINDOW_START, LEAD_IN_END, MESSAGE_SENT,
COLLISION, WINDOW_SETTLE. -/

namespace Sys2Proof.Machine

/-- The receiver begins its start search in a window (R29). -/
def State.openWindow (s : State) (kind : WindowKind) (k : Nat) : State :=
  { s with bus := { s.bus with window := some (kind, k) } }

/-- The Membership Unit's and the Demand Queue's reactions to the own claim window start (R62, R105): LEAVING with the
queue cancelled when leave is pending; else a MEMBER forms its claims, and in any other state the record is empty. -/
def State.ownWindowReaction (s : State) (c : Settings) : State :=
  if s.station = .member then
    if s.membership.leavePending then s.enterLeaving
    else { s with demand := { s.demand with claimRecord := claimsOf c s.demand.entries } }
  else { s with demand := { s.demand with claimRecord := [] } }

/-- The states in which a station sends an announcement (R23). -/
def StationState.announces : StationState → Bool
  | .joining => true
  | .member => true
  | .leaving => true
  | _ => false

/-- The transmitter leaves for LEAD-IN (R25). -/
def State.startLeadIn (s : State) (kind : WindowKind) : State :=
  { s with bus := { s.bus with tx := .leadIn kind s.station s.timer.frame s.membership.heardMap } }

/-- CLAIM_WINDOW_START (R4, R23, R25, R29, R62, R105). -/
def execClaimWindowStart (k : Nat) (s : State) : Result :=
  match s.cfg with
  | some c =>
    if k < c.windows then
      .next (s.phase c (c.placeClaim k) (c.claimStart k) (fun s1 =>
        let s2 := s1.openWindow .claim k
        if k = s1.me then
          let s3 := s2.ownWindowReaction c
          if s3.station.announces then s3.startLeadIn .claim else s3
        else s2))
    else .next s
  | none => .next s

/-- DIGEST_WINDOW_START (R4, R25, R29, R88): a MEMBER with its digest sends it in its own window. The transmitter is then
IDLE or still DONE with the claim window (log entry 10). -/
def execDigestWindowStart (k : Nat) (s : State) : Result :=
  match s.cfg with
  | some c =>
    if k < c.windows then
      .next (s.phase c (c.placeDigest k) (c.digestStart k) (fun s1 =>
        let s2 := s1.openWindow .digest k
        if k = s1.me ∧ s1.station = .member ∧ s1.agree.ownDigest.isSome then s2.startLeadIn .digest else s2))
    else .next s
  | none => .next s

/-- The announcement of R24 with these flags and claims. The frame number and the heard map are those of the window start,
which are those of the lead-in's end but where a LEAVE or REJOIN was taken in between; that does not change the announcement
(R24). -/
def State.announcement (s : State) (c : Settings) (frame : Byte) (heardMap : Half) (joining leaving : Bool)
    (claims : List Claim) : Announcement :=
  { station := s.me, group := c.group, frame := frame, joining := joining, leaving := leaving,
    held := s.agree.previous == .holdoff, fingerprint := c.fingerprint, heardMap := heardMap, claims := claims }

/-- The bytes fixed at the end of the lead-in (R23, R24): by the state then in force, but a station called for as JOINING
sends its JOINING announcement whatever came meanwhile. `none`: no message. -/
def State.content (s : State) (c : Settings) (kind : WindowKind) (calledIn : StationState) (frame : Byte)
    (heardMap : Half) : Option (List Byte) :=
  match kind with
  | .claim =>
    if calledIn = .joining then some (s.announcement c frame heardMap true false []).encode
    else match s.station with
      | .member => some (s.announcement c frame heardMap false false s.demand.claimRecord).encode
      | .leaving => some (s.announcement c frame heardMap false true []).encode
      | _ => none
  | .digest =>
    if s.station = .member then
      s.agree.ownDigest.map (fun d => DigestMessage.encode { station := s.me, frame := s.timer.frame, digest := d })
    else none

/-- LEAD_IN_END (R24, R25): two bit times after the own window's start the content is fixed and the transmitter is
SENDING. -/
def execLeadInEnd (s : State) : Result :=
  match s.cfg, s.bus.tx with
  | some c, .leadIn kind calledIn frame heardMap =>
    let s1 := s.advanceTo c (c.windowStart kind s.me + 2 * c.bitTu)
    match s.content c kind calledIn frame heardMap with
    | some bytes => .next { s1 with bus := { s1.bus with tx := .sending kind bytes } }
    | none => .next { s1 with bus := { s1.bus with tx := .idle } }
  | _, _ => .next s

/-- The tu of the sample point of bit `i` of the own window: floor(B·D/2) REFCLK periods after the bit's start (R21, R25). -/
def State.sampleTu (s : State) (c : Settings) (kind : WindowKind) (i : Nat) : Nat :=
  c.windowStart kind s.me + i * c.bitTu + c.sampleClocks / c.divider

/-- Time passes to the sample point of bit `i` of the own window, to the REFCLK period (R21). -/
def State.toSample (s : State) (c : Settings) (kind : WindowKind) (i : Nat) : State :=
  s.advanceClock c (s.sampleTu c kind i) (c.sampleClocks % c.divider)

/-- MESSAGE_SENT (R25): the transmitter is DONE with outcome SENT at the sample of the last stop bit. -/
def execMessageSent (s : State) : Result :=
  match s.cfg, s.bus.tx with
  | some c, .sending kind bytes =>
    let s1 := s.toSample c kind (1 + 10 * bytes.length)
    .next { s1 with bus := { s1.bus with tx := .done kind .sent } }
  | _, _ => .next s

/-- The code of the kind of window in a COLLISION record (R157). -/
def WindowKind.reason : WindowKind → Nat
  | .claim => 0
  | .digest => 1

/-- A mismatch at bit `i` of the own window (R26): count, record, DONE with COLLIDED. -/
def State.collide (s : State) (c : Settings) (kind : WindowKind) (i : Nat) : State :=
  let s1 := s.toSample c kind i
  (({ s1 with bus := { s1.bus with tx := .done kind .collided } }).count .collisions 1).offer
    { kind := .collision, frame := s.timer.frame, channel := some kind.reason }

/-- COLLISION (R26): a mismatch can only arise at a bit that the transmitter releases (log entry 11): one of the two
lead-in bits, or a 1 bit of the message. -/
def execCollision (bit : Nat) (s : State) : Result :=
  match s.cfg, s.bus.tx with
  | some c, .leadIn kind _ _ _ => if bit < 2 then .next (s.collide c kind bit) else .next s
  | some c, .sending kind bytes =>
    if bit < 2 + 10 * bytes.length ∧ drivenHigh (some bytes) bit then .next (s.collide c kind bit) else .next s
  | _, _ => .next s

/-- The transmit outcome for a window, if the station called for a message in it (R28). -/
def Transmitter.outcomeIn (t : Transmitter) (kind : WindowKind) : Option TxOutcome :=
  match t with
  | .idle => none
  | .leadIn k _ _ _ => if k = kind then some .none else none
  | .sending k _ => if k = kind then some .none else none
  | .done k o => if k = kind then some o else none

/-- The record of a window at its settle point (R31, R35): the transmit outcome in an own window with a message, else the
classification of what DAT did. The own digest window of a MEMBER that sent nothing shows NONE (R24). -/
def State.settleRecord (s : State) (c : Settings) (kind : WindowKind) (k : Nat) (line : DatLine) : WindowRecord :=
  let received := classify kind k c.fingerprint s.timer.frame (receive kind c.bitClocks line)
  if k = s.me then
    match s.bus.tx.outcomeIn kind with
    | some o => .own o
    | none => if kind = .digest ∧ s.station = .member then .own .none else received
  else received

/-- The counters of a settled window (R32, R33, R34). -/
def State.countRecord (s : State) (r : WindowRecord) : State :=
  match r with
  | .damaged => s.count .damaged 1
  | .foreign => s.count .foreign 1
  | .intact .outOfStep _ => if s.station.announces then s.count .mismatches 1 else s
  | _ => s

/-- The states in which the peer table is updated (R40). -/
def StationState.keepsPeers : StationState → Bool
  | .listening => true
  | .joining => true
  | .member => true
  | .leaving => true
  | _ => false

/-- The hand-over of the record of a peer's window (R31, R44, R89): the heard flag, or the received digest store. -/
def State.handRecord (s : State) (kind : WindowKind) (k : Nat) (r : WindowRecord) : State :=
  match kind, r with
  | .claim, .intact _ _ =>
    if s.station.keepsPeers then
      { s with membership := { s.membership with peers := s.membership.peers.set k { s.peer k with heard := true } } }
    else s
  | .digest, .intact step (.digest d) =>
    { s with agree := { s.agree with store := s.agree.store.set k (some { digest := d.digest, step := step }) } }
  | _, _ => s

/-- The record written into its place (R31). -/
def BusInterface.write (b : BusInterface) (kind : WindowKind) (k : Nat) (r : WindowRecord) : BusInterface :=
  match kind with
  | .claim => { b with claimRecords := b.claimRecords.set k r, window := none }
  | .digest => { b with digestRecords := b.digestRecords.set k r, window := none }

/-- WINDOW_SETTLE (R31): the open window's record is written, counted and, unless the window is the station's own (R35),
handed to the block that uses it. -/
def execWindowSettle (line : DatLine) (s : State) : Result :=
  match s.cfg, s.bus.window with
  | some c, some (kind, k) =>
    let s1 := s.advanceTo c (c.settleAt kind k)
    let r := s1.settleRecord c kind k line
    let s2 := ({ s1 with bus := s1.bus.write kind k r }).countRecord r
    if k = s.me then .next s2 else .next (s2.handRecord kind k r)
  | _, _ => .next s

end Sys2Proof.Machine
end

