-- ==== Sys2Proof/Machine/Schedule.lean ====
section
/-! DEFINITION. The commands that build and judge the frame's schedule: CLAIM_PHASE_CLOSE (03, 04), ALLOCATION_COMPLETE
(04), DIGEST_PHASE_CLOSE (05). -/

namespace Sys2Proof.Machine

/-! ### Claim phase close: step 1, the peer update (R45) -/

/-- The table of R45: the entry's next state and the record offered. -/
def PeerState.update (p : PeerState) (heard leaving : Bool) : PeerState × Option EventKind :=
  match p, heard, leaving with
  | .absent, true, false => (.joining1, none)
  | .absent, _, _ => (.absent, none)
  | .joining1, true, false => (.joining2, none)
  | .joining1, _, _ => (.absent, none)
  | .joining2, true, false => (.member, some .peerJoined)
  | .joining2, _, _ => (.absent, none)
  | .member, true, false => (.member, none)
  | .member, true, true => (.absent, some .peerLeft)
  | .member, false, _ => (.missing1, none)
  | .missing1, true, false => (.member, none)
  | .missing1, true, true => (.absent, some .peerLeft)
  | .missing1, false, _ => (.missing2, none)
  | .missing2, true, false => (.member, none)
  | .missing2, true, true => (.absent, some .peerLeft)
  | .missing2, false, _ => (.absent, some .peerLost)

/-- The entry of station `k` after the update of R45, with its record; the own entry is left alone. -/
def State.updatedPeer (s : State) (k : Nat) : PeerEntry × Option EventKind :=
  let p := s.peer k
  if k = s.me then (p, none)
  else match s.heardFrom k with
    | some (_, a) =>
      let u := p.state.update true a.leaving
      ({ p with state := u.1, group := a.group }, u.2)
    | none =>
      let u := p.state.update false false
      ({ p with state := u.1 }, u.2)

/-- Step 1 (R45, R47): every entry is updated in ascending station order, and the records are offered in that order. -/
def State.updatePeers (s : State) : State :=
  let records := (List.range 16).filterMap (fun k =>
    (s.updatedPeer k).2.map (fun kind => ({ kind := kind, frame := s.timer.frame, peer := some k } : EventRecord)))
  ({ s with membership :=
    { s.membership with peers := (List.range 16).map (fun k => (s.updatedPeer k).1) } }).offerAll records

/-! ### Step 2, the reference frame number (R51, R52) -/

/-- The non-JOINING candidate at station `k`, with the frame number it announced (R51). -/
def State.firstRank (s : State) (k : Nat) : Option (Nat × Byte) :=
  if k = s.me then
    if (s.station = .member ∨ s.station = .leaving) ∧ s.ownClaimOutcome = .sent then some (k, s.timer.frame) else none
  else match s.heardFrom k with
    | some (_, a) => if a.joining then none else some (k, a.frame)
    | none => none

/-- The JOINING candidate at station `k` (R51). -/
def State.secondRank (s : State) (k : Nat) : Option (Nat × Byte) :=
  if k = s.me then
    if s.station = .joining ∧ s.ownClaimOutcome = .sent then some (k, s.timer.frame) else none
  else match s.heardFrom k with
    | some (_, a) => if a.joining then some (k, a.frame) else none
    | none => none

/-- The reference sender and its frame number (R51): the lowest-numbered of the first rank that has one. -/
def State.reference (s : State) : Option (Nat × Byte) :=
  ((List.range 16).findSome? s.firstRank).or ((List.range 16).findSome? s.secondRank)

/-- Step 2 (R47, R49, R52): in LISTENING the reference is kept while OBSERVING; in JOINING, MEMBER and LEAVING it is adopted
if it differs. The second part is the reference sender of an adoption (R90). -/
def State.applyReference (s : State) : State × Option Nat :=
  if s.station = .listening then
    if s.membership.observation = .observing then
      ({ s with membership := { s.membership with listenRef := s.reference.map (·.2) } }, none)
    else (s, none)
  else match s.reference with
    | some (sender, frame) =>
      if frame = s.timer.frame then (s, none)
      else
        (({ s with timer := { s.timer with frame := frame } }).offer
          { kind := .seqAdopted, frame := frame, peer := some sender }, some sender)
    | none => (s, none)

/-! ### Steps 3 to 5 -/

/-- The collision streak after the own claim window record (R58). -/
def nextStreak (streak : Nat) : TxOutcome → Nat
  | .collided => streak + 1
  | .sent => 0
  | .none => 0

/-- Step 3 (R47, R58), in JOINING, MEMBER and LEAVING: the streak, and ISOLATED with DUPLICATE at 2. -/
def State.checkDuplicate (s : State) : State :=
  if s.station.announces then
    let n := nextStreak s.membership.streak s.ownClaimOutcome
    let s1 := { s with membership := { s.membership with streak := n } }
    if 2 ≤ n then s1.enterIsolated .duplicate else s1
  else s

/-- At least one received claim window is FOREIGN and none is INTACT; the own window does not enter (R59). -/
def State.foreignOnlyFrame (s : State) : Bool :=
  let others := (List.range 16).filter (fun k => k != s.me)
  others.any (fun k => s.bus.claimRecords.getD k .empty == .foreign) && others.all (fun k => (s.heardFrom k).isNone)

/-- Step 4 (R47, R59), in LISTENING and JOINING: the foreign-only frame count, and ISOLATED with CONFIG at 4. -/
def State.checkConfig (s : State) : State :=
  if s.station = .listening ∨ s.station = .joining then
    let n := if s.foreignOnlyFrame then s.membership.foreignOnly + 1 else 0
    let s1 := { s with membership := { s.membership with foreignOnly := n } }
    if 4 ≤ n then s1.enterIsolated .config else s1
  else s

/-- The joining-sent count after the own claim window record (R53). -/
def nextJoiningSent (n : Nat) : TxOutcome → Nat
  | .sent => min (n + 1) 3
  | .collided => 0
  | .none => n

/-- Every MEMBER peer's announcement of this frame carries the own bit in its heard map (R54). -/
def State.heardByAllMembers (s : State) : Bool :=
  (List.range 16).all (fun k =>
    k == s.me || (s.peer k).state != .member ||
      match s.heardFrom k with
      | some (_, a) => a.heardMap.getLsbD s.me
      | none => false)

/-- Step 5 (R47, R53–R55), in JOINING: the joining-sent count, admission, else the joining-frame count and the timeout. -/
def State.checkJoining (s : State) : State :=
  if s.station = .joining then
    let n := nextJoiningSent s.membership.joiningSent s.ownClaimOutcome
    let s1 := { s with membership := { s.membership with joiningSent := n } }
    if n = 3 ∧ s1.heardByAllMembers then s1.enterMember
    else
      let m := s.membership.joiningFrames + 1
      if 16 ≤ m then (s1.offer { kind := .joinTimeout, frame := s1.timer.frame }).enterListening
      else { s1 with membership := { s1.membership with joiningFrames := m } }
  else s

/-- The Membership Unit's claim phase close reaction (R47): its five steps, and the reference sender of an adoption. In
OFFLINE and ISOLATED it takes none. -/
def State.membershipClose (s : State) : State × Option Nat :=
  if s.station.keepsPeers then
    let r := s.updatePeers.applyReference
    (r.1.checkDuplicate.checkConfig.checkJoining, r.2)
  else (s, none)

/-! ### The claim list (R70–R76) -/

/-- The admitted claims of peer `k` (R71, R72): INTACT and IN_STEP, entry MEMBER. -/
def State.peerEntries (s : State) (k : Nat) : List ClaimEntry :=
  match s.heardFrom k with
  | some (.inStep, a) =>
    if (s.peer k).state = .member then entriesOf s.timer.frame k (s.peer k).group a.claims else []
  | _ => []

/-- The admitted own claims (R73): the own claim record, when the own claim window is SENT. -/
def State.ownEntries (s : State) (c : Settings) : List ClaimEntry :=
  if s.ownClaimOutcome = .sent then entriesOf s.timer.frame s.me c.group s.demand.claimRecord else []

/-- The claim list in the order of R75. -/
def State.formClaimList (s : State) (c : Settings) : List ClaimEntry :=
  orderEntries ((List.range 16).flatMap (fun k => if k = s.me then s.ownEntries c else s.peerEntries k))

/-- The Allocator at claim phase close (R68, R70): BUILDING with the claim list in MEMBER, else COMPLETE at once and empty. -/
def State.startAllocation (s : State) (c : Settings) : State :=
  { s with alloc :=
    { status := if s.station = .member then .building else .complete
      table := emptyTable c.slots c.channels
      claimList := if s.station = .member then s.formClaimList c else []
      unmetTallies := []
      frame := s.timer.frame
      view := s.memberView } }

/-- Everything claim phase close does (R47, R70, R90). -/
def State.closeClaims (s : State) (c : Settings) : State :=
  let r := s.membershipClose
  let s1 := { r.1 with agree := { r.1.agree with adoption := r.2 } }
  s1.startAllocation c

/-- CLAIM_PHASE_CLOSE (R4, R47, R68, R90). -/
def execClaimPhaseClose (s : State) : Result :=
  match s.cfg with
  | some c => .next (s.phase c c.placeClaimClose c.claimClose (fun s1 => s1.closeClaims c))
  | none => .next s

/-! ### Allocation complete -/

/-- The unmet numbers of the station's own entries (R80). -/
def ownUnmet (me : Nat) (entries : List ClaimEntry) : List Nat := (entries.filter (fun e => e.station == me)).map (·.unmet)

/-- The placed table is COMPLETE (R77–R81), the unmet grants are counted (R80), and a MEMBER computes its digest (R87). -/
def State.completeAllocation (s : State) (c : Settings) : State :=
  let placed := allocate c.slots c.channels s.alloc.claimList
  let tallies := ownUnmet s.me placed.2
  let s1 := { s with
    alloc := { s.alloc with status := .complete, table := placed.1, claimList := placed.2, unmetTallies := tallies }
    draws := s.draws + 1 }
  let s2 := s1.count .unmetGrants tallies.sum
  if s.station = .member then
    { s2 with agree := { s2.agree with ownDigest := some (digestOf s.alloc.view s.alloc.frame placed.1) } }
  else s2

/-- ALLOCATION_COMPLETE (R5, R81): placement is finished. It can come while the table is BUILDING. -/
def execAllocationComplete (s : State) : Result :=
  match s.cfg with
  | some c => if s.timing ∧ s.alloc.status = .building then .next (s.completeAllocation c) else .next s
  | none => .next s

/-! ### The vote (05 §5.4) -/

/-- The peers of the view whose stored digest is IN_STEP and equal to the own digest, and the station itself: A (R91). -/
def State.agreeing (s : State) (own : Half) : Nat :=
  1 + ((s.alloc.view.filter (fun k => k != s.me)).filter (fun k =>
    s.agree.store.getD k none == some { digest := own, step := .inStep })).length

/-- The verdict (R91, R92): EXPOSE if 2A is greater than V and no frame number was adopted. -/
def State.voteVerdict (s : State) (own : Half) : Verdict :=
  if s.alloc.view.length < 2 * s.agreeing own ∧ s.agree.adoption = none then .expose else .holdoff

/-- The published table record of a vote (R97). -/
def State.publication (s : State) (own : Half) (v : Verdict) : PublishedTable :=
  { frame := some s.timer.frame, verdict := v, bitmap := some (bitmapOf s.alloc.view), digest := some own,
    cells := some s.alloc.table }

/-- The HOLDOFF record (R93): A, V and, when forced, the reference sender. -/
def State.holdoffRecord (s : State) (own : Half) : EventRecord :=
  { kind := .holdoff, frame := s.timer.frame, peer := s.agree.adoption, slot := some (s.agreeing own),
    channel := some s.alloc.view.length }

/-- The vote of a MEMBER with its digest `own` (R91–R93, R97), and the binding on EXPOSE (R107). -/
def State.vote (s : State) (c : Settings) (own : Half) : State :=
  let v := s.voteVerdict own
  let s1 := { s with agree := { s.agree with verdict := v, published := s.publication own v } }
  if v = .expose then s1.bind c
  else (s1.count .holdoffs 1).offer (s.holdoffRecord own)

/-- DIGEST_PHASE_CLOSE (R4, R91, R94): a MEMBER votes; in every other state there is no vote. A MEMBER has its own digest by
then (R5, R87; log entry 23). -/
def execDigestPhaseClose (s : State) : Result :=
  match s.cfg with
  | some c =>
    .next (s.phase c c.placeDigestClose c.digestClose (fun s1 =>
      match s1.station, s1.agree.ownDigest with
      | .member, some own => s1.vote c own
      | _, _ => s1))
  | none => .next s

end Sys2Proof.Machine
end

