-- ==== Sys2Proof/Machine/Dispatch.lean ====
section
/-! DEFINITION. What each command does to everything but the queue: one arm per constructor, one call of its meaning. -/

namespace Sys2Proof.Machine

def exec (i : Instr) (s : State) : Host.Outcome State Fault Refusal :=
  match i with
  | .rstAsserted lowSamples => Sys2Proof.Machine.execRstAsserted lowSamples s
  | .rstNegated straps => Sys2Proof.Machine.execRstNegated straps s
  | .granuleRead bytes => Sys2Proof.Machine.execGranuleRead bytes s
  | .loadCompletionSuccess trgaHigh trgbHigh => Sys2Proof.Machine.execLoadCompletionSuccess trgaHigh trgbHigh s
  | .loadCompletionFailure => Sys2Proof.Machine.execLoadCompletionFailure s
  | .mark => Sys2Proof.Machine.execMark s
  | .expiry => Sys2Proof.Machine.execExpiry s
  | .frmPullEnd => Sys2Proof.Machine.execFrmPullEnd s
  | .frmRisingEdge => Sys2Proof.Machine.execFrmRisingEdge s
  | .busFault => Sys2Proof.Machine.execBusFault s
  | .selfStart => Sys2Proof.Machine.execSelfStart s
  | .claimWindowStart k => Sys2Proof.Machine.execClaimWindowStart k s
  | .digestWindowStart k => Sys2Proof.Machine.execDigestWindowStart k s
  | .messageSent => Sys2Proof.Machine.execMessageSent s
  | .collision bit => Sys2Proof.Machine.execCollision bit s
  | .windowSettle line => Sys2Proof.Machine.execWindowSettle line s
  | .claimPhaseClose => Sys2Proof.Machine.execClaimPhaseClose s
  | .allocationComplete => Sys2Proof.Machine.execAllocationComplete s
  | .digestPhaseClose => Sys2Proof.Machine.execDigestPhaseClose s
  | .slotStart k => Sys2Proof.Machine.execSlotStart k s
  | .slotEnd k => Sys2Proof.Machine.execSlotEnd k s
  | .patternEdge offset fine => Sys2Proof.Machine.execPatternEdge offset fine s
  | .triggerArrival input lowSamples highSamples => Sys2Proof.Machine.execTriggerArrival input lowSamples highSamples s
  | .transactionStart => Sys2Proof.Machine.execTransactionStart s
  | .transactionEnd => Sys2Proof.Machine.execTransactionEnd s
  | .readStatus => Sys2Proof.Machine.execReadStatus s
  | .readEvent => Sys2Proof.Machine.execReadEvent s
  | .readPeers => Sys2Proof.Machine.execReadPeers s
  | .readTable => Sys2Proof.Machine.execReadTable s
  | .readQueue => Sys2Proof.Machine.execReadQueue s
  | .readCounters => Sys2Proof.Machine.execReadCounters s
  | .clearCounters => Sys2Proof.Machine.execClearCounters s
  | .leave => Sys2Proof.Machine.execLeave s
  | .rejoin => Sys2Proof.Machine.execRejoin s
  | .rejectedCode code => Sys2Proof.Machine.execRejectedCode code s
  | .leadInEnd => Sys2Proof.Machine.execLeadInEnd s
  | .commandCodeComplete command => Sys2Proof.Machine.execCommandCodeComplete command s
  | .responseByteShiftedOut => Sys2Proof.Machine.execResponseByteShiftedOut s

end Sys2Proof.Machine
end

