-- ==== Sys2Proof/Machine/Tick.lean ====
section
/-! DEFINITION. What the part does while no command waits: one REFCLK period passes (R1), and the events that fall due by
then are put into the queue in the order in which they come (DESIGN CHOICE, log entry 1). Other stations are taken to drive
neither FRM nor DAT unless a command says so (log entry 15). -/

namespace Sys2Proof.Machine

/-- The load completion that is due (R144, R145): the Image Loader emits it when its tests are done. Inputs are low. -/
def State.dueLoad (s : State) : List Instr :=
  match s.loadFailure with
  | some _ => [.loadCompletionFailure]
  | none => if s.loadSucceeds then [.loadCompletionSuccess false false] else []

/-- The bus fault, when the mark-low duration has reached 65 (R15). -/
def State.dueBusFault (s : State) : List Instr :=
  if s.timer.mode.monitors ∧ s.timer.frmLow ∧ s.timer.ownPull = false ∧ 65 ≤ s.timer.markLow then [.busFault] else []

/-- The self-start, when the silence timer has reached 2L with FRM high (R18). -/
def State.dueSelfStart (s : State) (c : Settings) : List Instr :=
  if s.selfStartDue c ∧ s.timer.frmLow = false then [.selfStart] else []

/-- The end of the own pull at frame timer value 8 (R8). Nobody else holds FRM, so the line rises. -/
def State.duePullEnd (s : State) : List Instr :=
  if s.timer.ownPull ∧ 8 ≤ s.timer.value then [.frmPullEnd, .frmRisingEdge] else []

/-- The sample point of bit `i` of the own window has come, to the REFCLK period (R21). -/
def State.sampleReached (s : State) (c : Settings) (kind : WindowKind) (i : Nat) : Bool :=
  decide (c.divider * s.sampleTu c kind i + c.sampleClocks % c.divider ≤ c.divider * s.timer.value + s.timer.prescaler)

/-- The end of the lead-in, or of the message when nobody disturbs it (R25). -/
def State.dueTransmitter (s : State) (c : Settings) : List Instr :=
  match s.bus.tx with
  | .leadIn kind _ _ _ => if c.windowStart kind s.me + 2 * c.bitTu ≤ s.timer.value then [.leadInEnd] else []
  | .sending kind bytes =>
    if s.sampleReached c kind (1 + 10 * bytes.length) then [.messageSent] else []
  | _ => []

/-- The settle point of the open window, in which nobody else pulled DAT (R31). -/
def State.dueSettle (s : State) (c : Settings) : List Instr :=
  match s.bus.window with
  | some (kind, k) => if c.settleAt kind k ≤ s.timer.value then [.windowSettle lineReleased] else []
  | none => []

/-- The Allocator's report, at a free time within 255 tu after claim phase close (R5, R81, log entry 13). -/
def State.dueAllocation (s : State) (c : Settings) : List Instr :=
  if s.alloc.status = .building ∧ c.claimClose + (Config.allocationDelay s.draws).val ≤ s.timer.value then
    [.allocationComplete]
  else []

/-- The instant of an edge has come: origin plus offset tu plus `fine` tenths of a tu, in tenths of a REFCLK period, against
the frame timer value and the prescaler (R1, R122). -/
def State.edgeReached (s : State) (c : Settings) (r : RunningPattern) (e : Edge) : Bool :=
  decide (10 * c.divider * (r.origin + e.offset) + c.divider * e.fine ≤
    10 * c.divider * s.timer.value + 10 * s.timer.prescaler)

/-- The edges of the running pattern that have come and are not yet applied (R122). -/
def State.duePatternEdges (s : State) (c : Settings) : List Instr :=
  match s.engine.mode with
  | .running r =>
    (((c.patternEdges r.pattern).drop r.next).takeWhile (s.edgeReached c r)).map
      (fun e => .patternEdge e.offset e.fine)
  | _ => []

/-- The phase events that have come and are not yet emitted, in the order of R4 and R5. -/
def State.duePhaseEvents (s : State) (c : Settings) : List Instr :=
  ((c.schedule.drop s.timer.emitted).takeWhile (fun p => decide (p.1 ≤ s.timer.value))).map (·.2)

/-- The events of a frame that fall due in RUNNING. -/
def State.dueInFrame (s : State) (c : Settings) : List Instr :=
  if s.timing then
    s.duePullEnd ++ s.dueTransmitter c ++ s.dueSettle c ++ s.dueAllocation c ++ s.duePatternEdges c ++ s.duePhaseEvents c
  else []

/-- Everything that falls due; a bus fault ends the frame and comes alone (R15). -/
def State.due (s : State) (c : Settings) : List Instr :=
  if s.dueBusFault ≠ [] then s.dueBusFault else s.dueSelfStart c ++ s.dueInFrame c

/-- One REFCLK period passes (R1): the prescaler counts, and every D periods a tu passes. It does not run in STOPPED. -/
def State.clock (s : State) (c : Settings) : State :=
  if s.timer.mode = .stopped then s
  else if s.timer.prescaler + 1 < c.divider then
    { s with
      timer := { s.timer with prescaler := s.timer.prescaler + 1, lapsed := [] }
      engine := s.engine.elapse 1 }
  else s.elapse c 1

/-- One REFCLK period passes at the boot port (R134): the pause runs out, then the read runs its 640 periods and waits for its
bytes (log entry 36). -/
def ImageLoader.clock (l : ImageLoader) : ImageLoader :=
  if l.boot.isNone then l
  else if l.bootPause = 0 then { l with bootClock := min (l.bootClock + 1) 640 }
  else { l with bootPause := l.bootPause - 1 }

/-- The step on an empty queue: a REFCLK period passes, and what falls due is queued. Before load completion D is not known
and no tu passes; the boot port is clocked, and a load whose tests are done completes (R1, R134, R144, R145). -/
def State.idle (s : State) : State :=
  match s.cfg with
  | some c =>
    let s1 := s.clock c
    { s1 with pending := s1.pending ++ s1.due c }
  | none => { s with loader := s.loader.clock, pending := s.pending ++ s.dueLoad }

end Sys2Proof.Machine
end

