-- ==== Sys2Proof/Safety.lean ====
section
/-! DEFINITION. The terms in which statements about the part are made: frames (which blocks a command leaves alone), the
laws every step keeps, the law of a reservation table, and the reference frame number as a relation. -/

namespace Sys2Proof.Machine

/-! ### Frames -/

/-- The parts of `State`, for saying which of them a command leaves alone. -/
inductive Block
  /-- RST and the station number -/
  | straps
  | config
  | timer
  | bus
  | membership
  | alloc
  | agree
  | demand
  | engine
  | loader
  | events
  | counters
  | port
  | draws
  | pending
deriving DecidableEq, Repr

/-- A block is the same in two states. -/
def Block.same (b : Block) (s t : State) : Prop :=
  match b with
  | .straps => t.rstLow = s.rstLow ∧ t.sid = s.sid
  | .config => t.cfg = s.cfg
  | .timer => t.timer = s.timer
  | .bus => t.bus = s.bus
  | .membership => t.membership = s.membership
  | .alloc => t.alloc = s.alloc
  | .agree => t.agree = s.agree
  | .demand => t.demand = s.demand
  | .engine => t.engine = s.engine
  | .loader => t.loader = s.loader
  | .events => t.events = s.events
  | .counters => t.counters = s.counters
  | .port => t.port = s.port
  | .draws => t.draws = s.draws
  | .pending => t.pending = s.pending

/-- Only the named blocks may differ between two states. -/
def State.onlyChanges (s t : State) (changed : List Block) : Prop := ∀ b : Block, b ∉ changed → b.same s t

/-- The command completes, and its next state has the property. -/
def Completes (i : Instr) (s : State) (p : State → Prop) : Prop := ∃ t, exec i s = .next t ∧ p t

/-- The part has its configuration `c`, times a frame, and has not yet emitted the phase event at `place` in it (R2, R4); nor is
that event one of the ended frame that came with its mark (R12). -/
def State.awaits (s : State) (c : Settings) (place : Nat) : Prop :=
  s.cfg = some c ∧ s.timer.mode = .running ∧ s.timer.emitted ≤ place ∧ place ∉ s.timer.lapsed

/-- The exposure in the engine is untouched: its mode and its levels. -/
def State.engineKept (s t : State) : Prop := t.engine.mode = s.engine.mode ∧ t.engine.levels = s.engine.levels

/-- A frame has begun (R6, R9, R18): the timer runs from 0, FRM is low, no phase event has been emitted and the silence timer
is restarted. `pulls`: the station makes the mark by its own pull (R8). -/
def State.timerRestarted (t : State) (pulls : Bool) : Prop :=
  t.timer.mode = .running ∧ t.timer.value = 0 ∧ t.timer.prescaler = 0 ∧ t.timer.markLow = 0 ∧ t.timer.silence = 0 ∧
  t.timer.frmLow = true ∧ t.timer.ownPull = pulls ∧ t.timer.emitted = 0

/-- What belonged to the frame that a mark ends is gone (R27, R31, R68, R85, R102): `t` is the state after the mark, `s` the one
before it. -/
def State.frameCleared (s t : State) (c : Settings) : Prop :=
  t.bus = BusInterface.reset ∧
  t.alloc.status = .none ∧ t.alloc.table = List.replicate c.slots (List.replicate c.channels none) ∧
  t.alloc.claimList = [] ∧ t.alloc.unmetTallies = [] ∧
  t.agree.ownDigest = none ∧ t.agree.store = List.replicate 16 none ∧ t.agree.adoption = none ∧
  t.agree.verdict = .none ∧ t.agree.previous = s.agree.verdict ∧ t.agree.published = s.agree.published ∧
  t.demand.exposures = [] ∧ t.demand.claimRecord = [] ∧ (∀ e ∈ t.demand.entries, e.bound = none) ∧
  t.demand.nextRequest = s.demand.nextRequest

/-- The EXPIRED record of an entry (R112). -/
def expiredRecord (frame : Byte) (e : DemandEntry) : EventRecord :=
  { kind := .expired, frame := frame, cls := some e.cls, request := some e.request }

/-- The CANCELLED record of an entry (R113). -/
def cancelledRecord (frame : Byte) (e : DemandEntry) : EventRecord :=
  { kind := .cancelled, frame := frame, cls := some e.cls, request := some e.request }

/-- R112: the entries whose age is below their class's max age, one mark older and PENDING, in their order. -/
def survivors (c : Settings) (entries : List DemandEntry) : List DemandEntry :=
  entries.filterMap (fun e =>
    if e.age < (c.classOf e.cls).maxAge then some { e with age := e.age + 1, bound := none } else none)

/-- R112: the entries that a mark removes, in queue order. -/
def overAge (c : Settings) (entries : List DemandEntry) : List DemandEntry :=
  entries.filter (fun e => decide ((c.classOf e.cls).maxAge ≤ e.age))

/-- A mark comes that R9 calls normal: HOLDING, or RUNNING in the tail. -/
def State.normalDue (s : State) (c : Settings) : Prop :=
  s.timer.mode = .holding ∨ (s.timer.mode = .running ∧ c.frameLength - c.tail ≤ s.timer.value)

/-- A mark comes that R9 calls a runt: RUNNING, before the tail. -/
def State.runtDue (s : State) (c : Settings) : Prop :=
  s.timer.mode = .running ∧ s.timer.value < c.frameLength - c.tail

/-- R10: the slot field of a RUNT record is the slot in progress, absent outside the slot phase. -/
def State.runtRecordIs (s : State) (c : Settings) (r : EventRecord) : Prop :=
  r.kind = .runt ∧ r.frame = s.timer.frame ∧ r.peer = none ∧ r.cls = none ∧ r.request = none ∧ r.channel = none ∧
  ∀ k, r.slot = some k ↔ k < c.slots ∧ s.timer.emitted = c.placeSlotStart k + 1

/-! ### The laws of a state -/

/-- The ranges of §0.6.4, R99, R115 and R141 hold of a configuration. -/
def Settings.inRange (c : Settings) : Prop :=
  (2 ≤ c.windows ∧ c.windows ≤ 16) ∧ (4 ≤ c.slots ∧ c.slots ≤ 32) ∧ (1 ≤ c.channels ∧ c.channels ≤ 4) ∧
  (2 ≤ c.bitTu ∧ c.bitTu ≤ 16) ∧ (64 ≤ c.slotLen ∧ c.slotLen ≤ 16383) ∧ (256 ≤ c.gap ∧ c.gap ≤ 4095) ∧
  (32 ≤ c.tail ∧ c.tail ≤ 4095) ∧ (1 ≤ c.divider ∧ c.divider ≤ 64) ∧ c.group ≤ 7 ∧
  c.classes.length = 4 ∧ c.patterns.length = 16 ∧ c.edges.length = 128 ∧
  (∀ e ∈ c.edges, e.fine ≤ 9 ∧ e.output ≤ 7)

/-- The collections keep their sizes: 32 event records (R155), 12 demand entries (R101), 4 own claims (R102), 16 peer entries
(R43), 16 records of each kind of window (R31), 16 stored digests (R85). -/
def State.Sized (s : State) : Prop :=
  s.events.records.length ≤ 32 ∧ s.demand.entries.length ≤ 12 ∧ s.demand.claimRecord.length ≤ 4 ∧
  s.membership.peers.length = 16 ∧ s.bus.claimRecords.length = 16 ∧ s.bus.digestRecords.length = 16 ∧
  s.agree.store.length = 16

/-- The load state before its outcome (R133). -/
def LoadState.open : LoadState → Bool
  | .idle => true
  | .headers => true
  | .merging => true
  | .checking => true
  | .loaded => false
  | .failed => false

/-- Load state, configuration and station state go together (R42, R132, R133, R144, R145): the station is LOADING until the
load has its outcome, LOAD_FAILED after a failure, and has its configuration after a success. A boot port read takes 640 REFCLK
periods and begins when the pause before it is over (R134). -/
def State.Loaded (s : State) : Prop :=
  (s.cfg.isSome = true ↔ s.loader.state = .loaded) ∧
  (s.station = .loadFailed ↔ s.loader.state = .failed) ∧
  (s.station = .loading ↔ s.loader.state.open = true) ∧
  (s.rstLow = true → s.loader.state = .idle) ∧
  (s.loader.boot.isSome = true → s.loader.state = .headers ∨ s.loader.state = .merging) ∧
  (s.loader.failing.isSome = true → (s.loader.state = .headers ∨ s.loader.state = .merging) ∧ s.loader.boot = none) ∧
  (s.loader.boot = none → s.loader.bootPause = 0 ∧ s.loader.bootClock = 0) ∧
  (s.loader.bootPause ≠ 0 → s.loader.bootClock = 0) ∧ s.loader.bootClock ≤ 640

/-- What R2, R14, R16 and R17 say of the Frame Timer's values in each mode. Events that came with a mark stay out only while no
time has passed since (R12). -/
def State.Timed (s : State) : Prop :=
  match s.cfg with
  | none =>
    s.timer.mode = .stopped ∧ s.timer.value = 0 ∧ s.timer.markLow = 0 ∧ s.timer.silence = 0 ∧ s.timer.ownPull = false ∧
    s.timer.lapsed = []
  | some c =>
    c.inRange ∧ s.timer.mode ≠ .stopped ∧ s.timer.value ≤ c.frameLength ∧ s.timer.prescaler < c.divider ∧
    s.timer.markLow ≤ 65 ∧ s.timer.silence ≤ 2 * c.frameLength ∧
    (s.station ≠ .listening → s.timer.silence = 0) ∧
    (s.timer.mode = .searching → s.timer.value = 0) ∧
    (s.timer.mode = .holding → s.timer.value = c.frameLength) ∧
    (s.timer.mode = .faulted →
      s.timer.value = 0 ∧ s.timer.markLow = 0 ∧ s.timer.frmLow = true ∧ s.timer.ownPull = false) ∧
    (s.timer.ownPull = true → s.timer.frmLow = true) ∧
    (s.timer.lapsed ≠ [] → s.timer.mode = .running ∧ s.timer.value = 0 ∧ s.timer.prescaler = 0)

/-- The states in which the peer table is kept clear (R40, R43). -/
def StationState.clearsPeers : StationState → Bool
  | .loading => true
  | .loadFailed => true
  | .offline => true
  | .isolated => true
  | .listening => false
  | .joining => false
  | .member => false
  | .leaving => false

/-- What R40, R41, R43, R53, R55, R58, R59 and R61 say of the Membership Unit in each station state. -/
def State.Membered (s : State) : Prop :=
  s.peer s.me = PeerEntry.cleared ∧
  s.membership.heardMap.getLsbD s.me = false ∧
  (s.station.clearsPeers = true →
    s.membership.peers = List.replicate 16 PeerEntry.cleared ∧ s.membership.heardMap = 0) ∧
  (s.membership.leavePending = true → s.station = .member) ∧
  s.membership.joiningSent ≤ 3 ∧ s.membership.joiningFrames < 16 ∧
  s.membership.streak < 2 ∧ s.membership.foreignOnly < 4 ∧
  (s.station ≠ .joining → s.membership.joiningSent = 0 ∧ s.membership.joiningFrames = 0) ∧
  (s.station.announces = false → s.membership.streak = 0) ∧
  (s.station ≠ .listening → s.station ≠ .joining → s.membership.foreignOnly = 0) ∧
  (s.membership.isolation.isSome = true ↔ s.station = .isolated)

/-- What R68, R85, R87, R95, R102, R107, R117, R118, R120 and R161 say of the frame's schedule: the table's dimensions and status, the
digest, the verdict, the queue with its trigger filters, and the running exposure. -/
def State.Scheduled (s : State) : Prop :=
  match s.cfg with
  | none =>
    s.alloc = Allocator.reset ∧ s.agree.verdict = .none ∧ s.agree.ownDigest = none ∧ s.demand.entries = [] ∧
    s.demand.claimRecord = [] ∧ s.demand.exposures = [] ∧ s.engine.mode = .unloaded ∧
    s.demand.trga = { high := false, run := 0 } ∧ s.demand.trgb = { high := false, run := 0 }
  | some c =>
    s.alloc.table.length = c.slots ∧ (∀ slot ∈ s.alloc.table, slot.length = c.channels) ∧
    (s.alloc.status ≠ .none → c.placeClaimClose < s.timer.emitted) ∧
    (s.alloc.status = .building → s.station = .member) ∧
    (s.agree.ownDigest.isSome = true → s.station = .member ∧ s.alloc.status = .complete) ∧
    (s.agree.verdict ≠ .none → s.agree.ownDigest.isSome = true ∧ c.placeDigestClose < s.timer.emitted) ∧
    (s.demand.entries ≠ [] → s.station = .member) ∧
    (s.demand.claimRecord ≠ [] → s.station = .member) ∧
    (s.demand.exposures ≠ [] → s.agree.verdict = .expose) ∧
    (∀ e ∈ s.demand.entries, e.bound ≠ none → s.agree.verdict = .expose) ∧
    (s.demand.trga.run < c.divider ∧ s.demand.trgb.run < c.divider) ∧
    (match s.engine.mode with
      | .unloaded => False
      | .idle => s.engine.levels = c.idleMask
      | .running r =>
        s.agree.verdict = .expose ∧ s.timer.mode = .running ∧ r.slot < c.slots ∧
          c.placeSlotStart r.slot < s.timer.emitted)

/-- R68, R120: slot `k` of the COMPLETE table holds the cell `x` of the station's own number at channel `ch`. R67 lets a slot hold
one such cell at most; the lowest channel counts in a table that breaks it. -/
def State.ownCellIs (s : State) (k ch : Nat) (x : Cell) : Prop :=
  s.alloc.status = .complete ∧ s.alloc.table.cell k ch = some x ∧ x.station = s.me ∧
  ∀ ch' y, ch' < ch → s.alloc.table.cell k ch' = some y → y.station ≠ s.me

/-- The laws together. -/
def State.Coherent (s : State) : Prop := s.Sized ∧ s.Loaded ∧ s.Timed ∧ s.Membered ∧ s.Scheduled

/-- The last sentence of R107 as a law: every BOUND entry is bound to an own part-0 cell of its class in the COMPLETE table, and
no two to the same one. -/
def State.BoundLaw (s : State) : Prop :=
  (∀ e ∈ s.demand.entries, ∀ k ch, e.bound = some (k, ch) →
    s.agree.verdict = .expose ∧ ∃ x, s.ownCellIs k ch x ∧ x.cls = e.cls ∧ x.part = 0) ∧
  s.demand.entries.Pairwise (fun a b => a.bound ≠ none → a.bound ≠ b.bound)

/-! ### The law of a reservation table (R67) -/

/-- The group of the station in a cell, as the claim list gives it (R67, R72). -/
def cellGroup (list : List ClaimEntry) (x : Option Cell) : Option Nat := x.bind (fun cell => groupIn list cell.station)

/-- R67: no slot holds two cells of one exclusion group, and each part-1 cell follows the part-0 cell of its exposure on the
same channel in the slot before. -/
def Table.lawful (list : List ClaimEntry) (t : Table) : Prop :=
  (∀ k c c', c ≠ c' → t.cell k c ≠ none → t.cell k c' ≠ none →
    cellGroup list (t.cell k c) ≠ cellGroup list (t.cell k c')) ∧
  (∀ k c x, t.cell k c = some x → x.part = 1 →
    1 ≤ k ∧ t.cell (k - 1) c = some { station := x.station, cls := x.cls, part := 0 })

/-- A claim list as R74 forms it: spans of 1 or 2, nothing granted yet, and one group for each station. -/
def claimListFormed (list : List ClaimEntry) : Prop :=
  (∀ e ∈ list, (e.span = 1 ∨ e.span = 2) ∧ e.granted = 0 ∧ e.unmet = 0) ∧
  (∀ e ∈ list, ∀ e' ∈ list, e.station = e'.station → e.group = e'.group)

/-- R77: the exposure of an entry can stand at slot `k`, channel `ch`: it fits, its cells are empty, and none of its slots holds a
cell of a station of the entry's group. -/
def Table.free (t : Table) (list : List ClaimEntry) (slots : Nat) (e : ClaimEntry) (k ch : Nat) : Prop :=
  k + e.span - 1 < slots ∧ ∀ i, i < e.span → t.cell (k + i) ch = none ∧
    ∀ c x, t.cell (k + i) c = some x → ∀ e' ∈ list, e'.station = x.station → e'.group ≠ e.group

/-- R77: slot `k`, channel `ch` is the first such position, slots ascending and channels ascending within each. -/
def Table.firstFree (t : Table) (list : List ClaimEntry) (slots channels : Nat) (e : ClaimEntry) (k ch : Nat) : Prop :=
  k < slots ∧ ch < channels ∧ t.free list slots e k ch ∧
  ∀ k' ch', ch' < channels → (k' < k ∨ (k' = k ∧ ch' < ch)) → ¬ t.free list slots e k' ch'

/-- R78: `u` is the table with the entry's cells written at slot `k`, channel `ch`, and no other cell changed. -/
def Table.writtenAt (t u : Table) (e : ClaimEntry) (k ch : Nat) : Prop :=
  u.map List.length = t.map List.length ∧
  ∀ k' c', u.cell k' c' =
    if k' = k ∧ c' = ch then some { station := e.station, cls := e.cls, part := 0 }
    else if e.span = 2 ∧ k' = k + 1 ∧ c' = ch then some { station := e.station, cls := e.cls, part := 1 }
    else t.cell k' c'

/-- R77 to R79 as a relation: placing the waiting entries, the first of which may have some exposures granted already, into one
table gives another, and the entries with their granted and unmet numbers. -/
inductive Placed (list : List ClaimEntry) (slots channels : Nat) :
    Table → List ClaimEntry → Table → List ClaimEntry → Prop
  /-- no entry is left -/
  | nil (t : Table) : Placed list slots channels t [] t []
  /-- an attempt finds its position -/
  | grant (t u t' : Table) (e : ClaimEntry) (rest out : List ClaimEntry) (k ch : Nat) (h : e.granted < e.count)
      (hf : t.firstFree list slots channels e k ch) (hw : t.writtenAt u e k ch)
      (hp : Placed list slots channels u ({ e with granted := e.granted + 1 } :: rest) t' out) :
      Placed list slots channels t (e :: rest) t' out
  /-- every exposure of the entry is granted -/
  | finish (t t' : Table) (e : ClaimEntry) (rest out : List ClaimEntry) (h : e.granted = e.count)
      (hp : Placed list slots channels t rest t' out) : Placed list slots channels t (e :: rest) t' (e :: out)
  /-- an attempt finds no position -/
  | fail (t t' : Table) (e : ClaimEntry) (rest out : List ClaimEntry) (h : e.granted < e.count)
      (hf : ∀ k ch, ch < channels → ¬ t.free list slots e k ch) (hp : Placed list slots channels t rest t' out) :
      Placed list slots channels t (e :: rest) t' ({ e with unmet := e.count - e.granted } :: out)

/-- R36, R37, R99 and R115 as a law: the fields of every announcement heard and of every own claim are ones their bytes can carry,
the classes in use have priorities, limits and spans from which such claims are made, and the claim list being placed is one as
R74 forms it. -/
def State.ClaimsInRange (s : State) : Prop :=
  (∀ r ∈ s.bus.claimRecords, ∀ step a, r = .intact step (.announcement a) → a.inRange = true) ∧
  (∀ x ∈ s.demand.claimRecord, x.inRange = true) ∧
  (∀ c, s.cfg = some c → ∀ i, i < 4 → (c.classOf i).source ≠ .none →
    (c.classOf i).priority < 4 ∧ 1 ≤ (c.classOf i).limit ∧ (c.classOf i).limit ≤ 4 ∧
    (c.classSpan i = 1 ∨ c.classSpan i = 2)) ∧
  (s.alloc.status = .building → claimListFormed s.alloc.claimList)

/-- Two entries differ in one of the four keys of R75. -/
def ClaimEntry.differs (a b : ClaimEntry) : Prop :=
  a.priority ≠ b.priority ∨ a.rank ≠ b.rank ∨ a.cls ≠ b.cls ∨ a.position ≠ b.position

/-! ### The member view (R46) -/

/-- Station `k` is in the member view: the station itself when it is MEMBER, and a peer whose entry is MEMBER or MISSING. -/
def State.inView (s : State) (k : Nat) : Prop :=
  k < 16 ∧ ((k = s.me ∧ s.station = .member) ∨
    (k ≠ s.me ∧ ((s.peer k).state = .member ∨ (s.peer k).state = .missing1 ∨ (s.peer k).state = .missing2)))

/-! ### Foreign-only frames (R59) -/

/-- At least one received claim window of this frame is FOREIGN and none is INTACT; the own window does not count. -/
def State.onlyForeign (s : State) : Prop :=
  (∃ k, k < 16 ∧ k ≠ s.me ∧ s.bus.claimRecords.getD k .empty = .foreign) ∧
  (∀ k, k < 16 → k ≠ s.me → s.heardFrom k = none)

/-- This frame does not bring the foreign-only frame count to its limit of 4. -/
def State.foreignBelowLimit (s : State) : Prop :=
  s.membership.foreignOnly < 3 ∨ (s.membership.foreignOnly = 3 ∧ ¬ s.onlyForeign)

/-! ### The reference frame number (R51) -/

/-- Station `k` announced frame number `f` in this frame without the JOINING flag, or is the station itself, MEMBER or LEAVING,
with its announcement SENT (R51, first rank). -/
def State.candidate1 (s : State) (k : Nat) (f : Byte) : Prop :=
  if k = s.me then (s.station = .member ∨ s.station = .leaving) ∧ s.ownClaimOutcome = .sent ∧ f = s.timer.frame
  else ∃ step a, s.heardFrom k = some (step, a) ∧ a.joining = false ∧ f = a.frame

/-- The same with the JOINING flag, or the station itself when JOINING (R51, second rank). -/
def State.candidate2 (s : State) (k : Nat) (f : Byte) : Prop :=
  if k = s.me then s.station = .joining ∧ s.ownClaimOutcome = .sent ∧ f = s.timer.frame
  else ∃ step a, s.heardFrom k = some (step, a) ∧ a.joining = true ∧ f = a.frame

/-- R51: station `k`, with frame number `f`, is the reference sender: the lowest-numbered of the first rank, or, where that rank
is empty, of the second. -/
def State.referenceIs (s : State) (k : Nat) (f : Byte) : Prop :=
  k < 16 ∧
  ((s.candidate1 k f ∧ ∀ j g, j < k → ¬ s.candidate1 j g) ∨
    ((∀ j g, j < 16 → ¬ s.candidate1 j g) ∧ s.candidate2 k f ∧ ∀ j g, j < k → ¬ s.candidate2 j g))

/-! ### The tests of CHECKING on the bytes of the merged image (R141–R143) -/

/-- N, as the shared section gives it (R141). -/
def imageWindows (image : List MergedGranule) : Nat := (byteAt (granuleData image 1) 0).toNat

/-- R141: the shared parameters, D, the group and the zero bytes are in range. -/
def imageParams (image : List MergedGranule) : Prop :=
  let sh := granuleData image 1
  let own := granuleData image 2 ++ granuleData image 3
  (2 ≤ (byteAt sh 0).toNat ∧ (byteAt sh 0).toNat ≤ 16) ∧ (4 ≤ (byteAt sh 1).toNat ∧ (byteAt sh 1).toNat ≤ 32) ∧
  (1 ≤ (byteAt sh 2).toNat ∧ (byteAt sh 2).toNat ≤ 4) ∧ (2 ≤ (byteAt sh 3).toNat ∧ (byteAt sh 3).toNat ≤ 16) ∧
  (64 ≤ (halfAt sh 4).toNat ∧ (halfAt sh 4).toNat ≤ 16383) ∧ (256 ≤ (halfAt sh 6).toNat ∧ (halfAt sh 6).toNat ≤ 4095) ∧
  (32 ≤ (halfAt sh 8).toNat ∧ (halfAt sh 8).toNat ≤ 4095) ∧ (∀ x ∈ sh.drop 10, x = 0x00) ∧
  (1 ≤ (byteAt own 0).toNat ∧ (byteAt own 0).toNat ≤ 64) ∧ (byteAt own 1).toNat ≤ 7 ∧ (∀ x ∈ own.drop 25, x = 0x00)

/-- R142: class record `i` passes: a source of 00h to 03h, no trigger source of an earlier class, and for a source other than
NONE a pattern of 0–15, a priority of 0–3, a limit of 1–4 and a max age of 1–31. -/
def imageClass (image : List MergedGranule) (i : Nat) : Prop :=
  let own := granuleData image 2 ++ granuleData image 3
  let src : Nat → Nat := fun j => (byteAt own (2 + 5 * j)).toNat
  src i ≤ 3 ∧ (src i = 1 ∨ src i = 2 → ∀ j, j < i → src j ≠ src i) ∧
  (src i ≠ 0 →
    (byteAt own (3 + 5 * i)).toNat ≤ 15 ∧ (byteAt own (4 + 5 * i)).toNat ≤ 3 ∧
    (1 ≤ (byteAt own (5 + 5 * i)).toNat ∧ (byteAt own (5 + 5 * i)).toNat ≤ 4) ∧
    (1 ≤ (byteAt own (6 + 5 * i)).toNat ∧ (byteAt own (6 + 5 * i)).toNat ≤ 31))

/-- R143: the number of edges that P pattern granules hold, E = min(128, floor((15·P − 48) / 4)). -/
def edgesHeld (image : List MergedGranule) : Nat := min 128 ((15 * (image.length - 4) - 48) / 4)

/-- R143: the edges, the directory entries and the patterns pass. Edge j stands at byte 48 + 4j of the pattern section, and
the edges of pattern p are the run of its directory entry. -/
def imagePatterns (image : List MergedGranule) : Prop :=
  let p := ((image.drop 4).map (·.data)).flatten
  let b : Nat → Nat := fun n => (byteAt p n).toNat
  let offset : Nat → Nat := fun j => if j < edgesHeld image then (halfAt p (48 + 4 * j)).toNat else 0
  let fine : Nat → Nat := fun j => if j < edgesHeld image then b (50 + 4 * j) else 0
  (∀ j, j < edgesHeld image → b (50 + 4 * j) ≤ 9 ∧ b (51 + 4 * j) ≤ 15) ∧
  (∀ k, k < 16 → (b (3 * k) = 1 ∨ b (3 * k) = 2) ∧ b (3 * k + 2) ≤ 32 ∧
    (b (3 * k + 2) ≠ 0 → b (3 * k + 1) + b (3 * k + 2) ≤ edgesHeld image)) ∧
  (∀ k, k < 16 →
    (∀ j, b (3 * k + 1) ≤ j → j < b (3 * k + 1) + b (3 * k + 2) →
      offset j < b (3 * k) * (halfAt (granuleData image 1) 4).toNat) ∧
    (∀ j, b (3 * k + 1) + 1 ≤ j → j < b (3 * k + 1) + b (3 * k + 2) →
      offset (j - 1) < offset j ∨ (offset (j - 1) = offset j ∧ fine (j - 1) ≤ fine j)))

/-- Every test of CHECKING passes (R141–R143). -/
def imageAccepted (image : List MergedGranule) (sid : BitVec 4) : Prop :=
  imageParams image ∧ sid.toNat < imageWindows image ∧ (∀ i, i < 4 → imageClass image i) ∧ imagePatterns image

/-! ### What an idle step queues -/

/-- The mark-low duration has reached 65 in a mode that watches it, with FRM low and not by the own pull (R15). -/
def State.busFaultDue (s : State) : Prop :=
  s.timer.mode.monitors = true ∧ s.timer.frmLow = true ∧ s.timer.ownPull = false ∧ 65 ≤ s.timer.markLow

/-! ### Messages -/

/-- R30: the length of the message whose first bytes are `got`, as they give it: 7 for a digest message, 10 + k for an announcement
with claim count k in byte 3. -/
def messageIs (kind : WindowKind) (got : List Byte) (n : Nat) : Prop :=
  match kind with
  | .digest => n = 7
  | .claim => 4 ≤ got.length ∧ n = 10 + (byteAt got 3).toNat % 8

/-- R30: a byte whose start edge is at `e` is received without a framing error before the settle point. -/
def byteWhole (line : DatLine) (bd settle e : Nat) : Prop :=
  lowAt line (e + bd / 2) = true ∧ lowAt line (e + 9 * bd + bd / 2) = false ∧ e + 9 * bd + bd / 2 < settle

/-- R29: the start search, standing at `t`, discards the false starts of the list in turn and accepts the start edge `e`. The edge it
takes up is the first falling edge from `t` on, and its sample must come within the first 8 bit times: where that reads 1 the edge is
a false start, and the search resumes at the sample; where it reads 0 the edge is accepted. (The resumed search is past the false
start also where half a bit is no REFCLK period, which no image gives.) -/
def searchAccepts (line : DatLine) (bd t : Nat) : List Nat → Nat → Prop
  | [], e =>
    (falls line).find? (fun x => decide (t ≤ x)) = some e ∧ e + bd / 2 ≤ 8 * bd ∧ lowAt line (e + bd / 2) = true
  | f :: more, e =>
    (falls line).find? (fun x => decide (t ≤ x)) = some f ∧ f + bd / 2 ≤ 8 * bd ∧ lowAt line (f + bd / 2) = false ∧
      searchAccepts line bd (f + max 1 (bd / 2)) more e

/-- R29, R30: the start edges of the first bytes of a message: the one that the start search accepts, after the false starts it
discards, and after each whole byte the first falling edge from its stop bit's sample on and before 11 bit times. -/
def startEdges (line : DatLine) (bd settle : Nat) : List Nat → Prop
  | [] => False
  | e :: rest => (∃ falseStarts, searchAccepts line bd 0 falseStarts e) ∧ follow e rest
where
  /-- The start edges after `e`. -/
  follow (e : Nat) : List Nat → Prop
    | [] => True
    | e' :: rest =>
      byteWhole line bd settle e ∧ firstFall line (e + 9 * bd + bd / 2) (e + 11 * bd) = some e' ∧ follow e' rest

/-- R29, R30: the line carries `bytes` whole in a window that settles at `settle`: whatever false starts come before the first start
edge, the bytes from it on have no framing error and are sampled as `bytes`, and no falling edge follows the last stop bit's sample. -/
def carries (line : DatLine) (bd settle : Nat) (bytes : List Byte) : Prop :=
  ∃ before e, startEdges line bd settle (before ++ [e]) ∧ byteWhole line bd settle e ∧
    (before ++ [e]).map (sampledByte line bd) = bytes ∧ firstFall line (e + 9 * bd + bd / 2) settle = none

/-- The flags of an announcement are ones a station sends (R23, R32): JOINING and LEAVING not together, and neither with a
claim. -/
def Announcement.flagsLegal (a : Announcement) : Prop :=
  ¬(a.joining = true ∧ a.leaving = true) ∧ ((a.joining = true ∨ a.leaving = true) → a.claims = [])

end Sys2Proof.Machine
end

