-- ==== Sys2Proof/Certificates/Slice0/Obligations.lean ====
section
/-! DEFINITION. The statements for the provers. Their titles, tiers and rules are in OBLIGATIONS.json; the witnesses of their
hypotheses are in `Tests/Slice0.lean`. Section numbers are those of the manual (`spec/01` is chapter 1, and so on). -/

open Sys2Proof Sys2Proof.Machine

/-! ### The queue of commands -/

/-- A step takes the command at the front of the queue and is `exec` of it with the queue's rest. -/
def Obligations.StepRunsFrontCommand : Prop :=
  ∀ (c : Instr) (rest : List Instr) (s : State),
    step { s with pending := c :: rest } = exec c { s with pending := rest }

/-- With no command waiting, a step is one REFCLK period (section 1.1; the model's choice, log entry 1).
- Before load completion no tu passes; the boot port is clocked (log entry 36) and the load's outcome is queued when it is due,
with both trigger inputs low (the model's choice, log entry 19).
- In STOPPED the Frame Timer stands. In every other mode the prescaler counts to D, and at each tu boundary the frame timer value
rises by one in RUNNING up to L, the mark-low duration while FRM is low in the modes that watch it up to 65, and the silence timer
in LISTENING up to 2L.
- What is queued is what has fallen due: a bus fault alone; else the self-start, and in RUNNING the end of the own pull with the
rise of FRM, the end of the lead-in or of the message, the settle point of the open window, the Allocator's report at a free time
(log entry 13), the edges of the running pattern and the phase events not yet emitted. Model choices: nobody else drives FRM or
DAT, so FRM rises with the end of the own pull and a window settles with DAT released (log entry 15); an edge between two REFCLK
periods comes at the first period not before it (log entry 18).
- The phase events stand in the queue in the order of R4 and R5, each once, so slot k end before slot k+1 start. Where the other
events stand among them is not stated. -/
def Obligations.IdleStepIsOneRefclk : Prop :=
  (∀ s : State, s.pending = [] → s.cfg = none →
    ∃ t, step s = .next t ∧ s.onlyChanges t [.loader, .pending] ∧
      (s.loader.boot = none → t.loader = s.loader) ∧
      (s.loader.boot ≠ none → s.loader.bootPause = 0 →
        t.loader = { s.loader with bootClock := min (s.loader.bootClock + 1) 640 }) ∧
      (s.loader.boot ≠ none → s.loader.bootPause ≠ 0 →
        t.loader = { s.loader with bootPause := s.loader.bootPause - 1 }) ∧
      (∀ i, i ∈ t.pending ↔
        (i = .loadCompletionFailure ∧ (s.loader.failing ≠ none ∨
          (s.loader.state = .checking ∧ checkingFailure s.loader.granules s.sid ≠ none))) ∨
        (i = .loadCompletionSuccess false false ∧ s.loader.failing = none ∧ s.loader.state = .checking ∧
          checkingFailure s.loader.granules s.sid = none))) ∧
  (∀ (s : State) (c : Settings), s.pending = [] → s.cfg = some c → c.inRange →
    ∃ t, step s = .next t ∧ s.engineKept t ∧ s.onlyChanges t [.timer, .engine, .pending] ∧
      t.timer.mode = s.timer.mode ∧ t.timer.frame = s.timer.frame ∧ t.timer.emitted = s.timer.emitted ∧
      t.timer.frmLow = s.timer.frmLow ∧ t.timer.ownPull = s.timer.ownPull ∧
      (s.timer.mode = .stopped → t.timer = s.timer) ∧
      (s.timer.mode ≠ .stopped → s.timer.prescaler + 1 < c.divider →
        t.timer = { s.timer with prescaler := s.timer.prescaler + 1, lapsed := [] }) ∧
      (s.timer.mode ≠ .stopped → c.divider ≤ s.timer.prescaler + 1 →
        t.timer.prescaler = 0 ∧
        (s.timer.mode = .running → t.timer.value = min (s.timer.value + 1) c.frameLength) ∧
        (s.timer.mode ≠ .running → t.timer.value = s.timer.value) ∧
        (s.timer.frmLow = true → s.timer.mode ≠ .faulted → t.timer.markLow = min (s.timer.markLow + 1) 65) ∧
        (s.timer.frmLow = false ∨ s.timer.mode = .faulted → t.timer.markLow = s.timer.markLow) ∧
        (s.station = .listening → t.timer.silence = min (s.timer.silence + 1) (2 * c.frameLength)) ∧
        (s.station ≠ .listening → t.timer.silence = s.timer.silence)) ∧
      (t.busFaultDue → t.pending = [.busFault]) ∧
      (¬ t.busFaultDue → ∀ i, i ∈ t.pending ↔
        (i = .selfStart ∧ t.station = .listening ∧ t.timer.mode ≠ .stopped ∧ 2 * c.frameLength ≤ t.timer.silence ∧
          t.timer.frmLow = false) ∨
        (t.timer.mode = .running ∧
          (((i = .frmPullEnd ∨ i = .frmRisingEdge) ∧ t.timer.ownPull = true ∧ 8 ≤ t.timer.value) ∨
            (i = .leadInEnd ∧ ∃ kind st frame heard, t.bus.tx = .leadIn kind st frame heard ∧
              c.windowStart kind t.me + 2 * c.bitTu ≤ t.timer.value) ∨
            (i = .messageSent ∧ ∃ kind bytes, t.bus.tx = .sending kind bytes ∧
              c.divider * (c.windowStart kind t.me + (1 + 10 * bytes.length) * c.bitTu) + c.bitTu * c.divider / 2 ≤
                c.divider * t.timer.value + t.timer.prescaler) ∨
            (i = .windowSettle { startLow := false, toggles := [] } ∧ ∃ kind k, t.bus.window = some (kind, k) ∧
              c.settleAt kind k ≤ t.timer.value) ∨
            (i = .allocationComplete ∧ t.alloc.status = .building ∧
              c.claimClose + (Config.allocationDelay t.draws).val ≤ t.timer.value) ∨
            (∃ r j e, t.engine.mode = .running r ∧ i = .patternEdge e.offset e.fine ∧ r.next ≤ j ∧
              (c.patternEdges r.pattern)[j]? = some e ∧
              ∀ m e', r.next ≤ m → m ≤ j → (c.patternEdges r.pattern)[m]? = some e' →
                10 * c.divider * (r.origin + e'.offset) + c.divider * e'.fine ≤
                  10 * c.divider * t.timer.value + 10 * t.timer.prescaler) ∨
            (∃ p v, c.schedule[p]? = some (v, i) ∧ t.timer.emitted ≤ p ∧ v ≤ t.timer.value)))) ∧
      (¬ t.busFaultDue →
        (t.timer.mode = .running → t.pending.filter (fun i => decide (i ∈ c.schedule.map Prod.snd)) =
          ((c.schedule.drop t.timer.emitted).filter (fun e => decide (e.1 ≤ t.timer.value))).map Prod.snd) ∧
        (∀ k a b : Nat, t.pending[a]? = some (Instr.slotEnd k) → t.pending[b]? = some (Instr.slotStart (k + 1)) → a < b)))

/-- Every command completes in every state, and none touches the queue. That it does so in EVERY state is the model's choice: a
command whose event cannot come then answers the state unchanged (log entry 2), and one with ill-formed operands is taken as log
entry 29 says. -/
def Obligations.EveryCommandCompletes : Prop :=
  ∀ (i : Instr) (s : State), Completes i s (fun t => t.pending = s.pending)

/-! ### Reset -/

/-- What the assertion of RST leaves, where the spec gives the value (sections 1.2, 2.3, 2.4, 3.1, 4.2, 5.1, 6.8, 7.3, 8.1, 9.1,
9.4, 9.5). -/
def Obligations.ResetState : Prop :=
  State.reset.station = .loading ∧ State.reset.timer.mode = .stopped ∧ State.reset.timer.value = 0 ∧
  State.reset.timer.frame = 0 ∧ State.reset.timer.markLow = 0 ∧ State.reset.timer.silence = 0 ∧
  State.reset.frmPulled = false ∧ State.reset.datPulled = false ∧ State.reset.bus.tx = .idle ∧
  (∀ k, State.reset.bus.claimRecords.getD k .empty = .empty ∧ State.reset.bus.digestRecords.getD k .empty = .empty) ∧
  (∀ k, State.reset.peer k = { state := .absent, group := 0, heard := false }) ∧
  State.reset.membership.heardMap = 0 ∧ State.reset.membership.joiningSent = 0 ∧
  State.reset.membership.joiningFrames = 0 ∧ State.reset.membership.streak = 0 ∧
  State.reset.membership.foreignOnly = 0 ∧ State.reset.membership.leavePending = false ∧
  State.reset.membership.listenRef = none ∧ State.reset.alloc.status = .none ∧ State.reset.alloc.table = [] ∧
  State.reset.alloc.claimList = [] ∧ State.reset.agree.verdict = .none ∧ State.reset.agree.previous = .none ∧
  State.reset.agree.ownDigest = none ∧ State.reset.agree.adoption = none ∧
  (∀ k, State.reset.agree.store.getD k none = none) ∧
  State.reset.agree.published = { frame := none, verdict := .none, bitmap := none, digest := none, cells := none } ∧
  State.reset.demand.entries = [] ∧ State.reset.demand.nextRequest = 0 ∧ State.reset.demand.claimRecord = [] ∧
  State.reset.demand.exposures = [] ∧ State.reset.cfg = none ∧ (∀ i, State.reset.drv i = none) ∧
  State.reset.chsel = none ∧ State.reset.chselPins = none ∧ State.reset.exposing = none ∧ State.reset.loader.state = .idle ∧
  State.reset.loader.result = .none ∧ State.reset.loader.reason = .none ∧ State.reset.loader.repaired = 0 ∧
  State.reset.loader.bselAsserted = false ∧ State.reset.loader.bclk = false ∧ State.reset.loader.bdo = false ∧
  State.reset.events.records = [] ∧ State.reset.events.overflow = false ∧
  (∀ n, State.reset.counters.get n = 0) ∧ State.reset.port.ldo = none ∧ State.reset.port.leading = 0x00 ∧
  State.reset.link = false ∧ State.reset.faultPin = false ∧ State.reset.evt = false

/-- RST (sections 1.5, 8.1, 8.2, 9.1, 10.2). Low for two samples or more, it puts every block in its reset state from any state,
where that state holds what the spec leaves open at the values of log entry 5; the port is ABANDONED if LSEL is low; FRM is
released, and after that it is low only if it was low without the station's own pull, which is the model's choice (log entry 7:
another station may hold the line through a pull). A shorter pulse does nothing (log entry 6). Its negation samples the straps and
begins the load with the read of granule 0 of copy 0 at 000000h; without an assertion before it nothing happens (log entry 2). -/
def Obligations.ResetPin : Prop :=
  (∀ (n : Nat) (s : State),
     (2 ≤ n → Completes (.rstAsserted n) s (fun t =>
       t.rstLow = true ∧ t.cfg = none ∧ t.bus = State.reset.bus ∧ t.membership = State.reset.membership ∧
       t.alloc = State.reset.alloc ∧ t.agree = State.reset.agree ∧ t.demand = State.reset.demand ∧
       t.engine = State.reset.engine ∧ t.loader = State.reset.loader ∧ t.events = State.reset.events ∧
       t.counters = State.reset.counters ∧ t.timer = { State.reset.timer with frmLow := t.timer.frmLow } ∧
       (t.timer.frmLow = true ↔ s.timer.frmLow = true ∧ s.timer.ownPull = false) ∧
       (t.port.state = if s.port.lselLow then .abandoned else .idle) ∧ t.port.lselLow = s.port.lselLow ∧
       t.port.leading = 0x00 ∧ s.onlyChanges t [.straps, .config, .timer, .bus, .membership, .alloc, .agree, .demand,
         .engine, .loader, .events, .counters, .port])) ∧
     (n < 2 → Completes (.rstAsserted n) s (fun t => t = s))) ∧
  (∀ (straps : BitVec 4) (s : State),
     (s.rstLow = true → Completes (.rstNegated straps) s (fun t =>
       t.rstLow = false ∧ t.sid = straps ∧ t.me = straps.toNat ∧ t.loader.state = .headers ∧ t.loader.result = .none ∧
       t.loader.reason = .none ∧ t.loader.repaired = 0 ∧ t.loader.granules = [] ∧ t.loader.header0 = none ∧
       t.loader.header1 = none ∧ t.loader.bselAsserted = true ∧ t.loader.bclk = false ∧
       t.loader.bdoBytes = [0x03, 0x00, 0x00, 0x00] ∧ s.onlyChanges t [.straps, .loader])) ∧
     (s.rstLow = false → Completes (.rstNegated straps) s (fun t => t = s)))

/-! ### The start-up image (chapter 8) -/

/-- The two headers (sections 8.2, 8.3). The first is kept with the outcome of its check, and the header of copy 1 is read next,
at 010000h, after BSEL has been negated for at least 2 BCLK periods (log entry 36). With both read, copy 0 is chosen if its header
is good, else copy 1 if its is, else the load fails with NO_HEADER; the fallback is copy 1 with an equal serial; of a chosen
header, a format other than 01h or a byte of 9 to 14 other than 00h gives BAD_FORMAT, and after that a count out of range PARAM.
The model's choices: a failed test is recorded here and the outcome comes with LOAD_COMPLETION_FAILURE (log entry 19); a granule
of another length than 16 fails its check (log entry 29); the data of a header whose check failed is kept beside that outcome (log
entry 34). At the pins, the command 03h and the address go out on BDO and the sixteen bytes come in on BDI, all most significant
bit first, at one bit for each BCLK period of four REFCLK periods (the phase of BCLK in it: log entry 36). -/
def Obligations.HeadersAreReadAndChosen : Prop :=
  (∀ (bytes : List Byte) (i : Nat) (s : State), s.loader.state = .headers → s.loader.boot = some (0, i) →
     Completes (.granuleRead bytes) s (fun t =>
       (∃ n, 8 ≤ n ∧ t.loader = { s.loader with
         header0 := some { data := bytes.take 15,
                           passes := bytes.length == 16 && crc8 (bytes.take 15) == byteAt bytes 15 }
         boot := some (1, 0)
         bootPause := n
         bootClock := 0 }) ∧
       t.loader.bselAsserted = false ∧ t.loader.bclk = false ∧ t.loader.bdo = false ∧
       t.loader.bdoBytes = [0x03, 0x01, 0x00, 0x00] ∧ s.onlyChanges t [.loader, .draws])) ∧
  (∀ (b0 b1 : List Byte) (s : State) (h0 h1 : HeaderRead), b0.length = 16 → b1.length = 16 →
     h0 = { data := b0.take 15, passes := crc8 (b0.take 15) == byteAt b0 15 } →
     h1 = { data := b1.take 15, passes := crc8 (b1.take 15) == byteAt b1 15 } →
     s.loader.state = .headers → s.loader.boot = some (1, 0) → s.loader.header0 = some h0 → s.loader.failing = none →
     let good : HeaderRead → Prop := fun h => h.passes = true ∧ byteAt h.data 0 = 0x4B ∧ byteAt h.data 1 = 0x57
     let format : HeaderRead → Prop := fun h =>
       byteAt h.data 2 = 0x01 ∧ (∀ i, 9 ≤ i → i ≤ 14 → byteAt h.data i = 0x00)
     let counts : HeaderRead → Prop := fun h =>
       8 ≤ (byteAt h.data 5).toNat ∧ (byteAt h.data 5).toNat ≤ 128 ∧ byteAt h.data 6 = 1 ∧ byteAt h.data 7 = 2 ∧
       (byteAt h.data 8).toNat + 4 = (byteAt h.data 5).toNat
     let failed : LoadReason → State → Prop := fun why t =>
       t.loader.failing = some why ∧ t.loader.boot = none ∧ t.loader.bselAsserted = false ∧ t.loader.state = .headers
     Completes (.granuleRead b1) s (fun t =>
       s.onlyChanges t [.loader, .draws] ∧ t.loader.bselAsserted = false ∧
       (good h0 → format h0 → counts h0 →
         t.loader.state = .merging ∧ t.loader.chosen = some 0 ∧ t.loader.granules = [{ data := h0.data, copy := 0 }] ∧
         (t.loader.fallback = some 1 ↔ good h1 ∧ byteAt h1.data 3 = byteAt h0.data 3 ∧ byteAt h1.data 4 = byteAt h0.data 4) ∧
         t.loader.repaired = s.loader.repaired ∧
         t.loader.boot = some (0, 1) ∧ 8 ≤ t.loader.bootPause ∧ t.loader.failing = none) ∧
       (¬ good h0 → good h1 → format h1 → counts h1 →
         t.loader.state = .merging ∧ t.loader.chosen = some 1 ∧ t.loader.granules = [{ data := h1.data, copy := 1 }] ∧
         t.loader.fallback = none ∧ t.loader.repaired = s.loader.repaired + 1 ∧ t.loader.boot = some (1, 1) ∧
         8 ≤ t.loader.bootPause ∧ t.loader.failing = none) ∧
       (¬ good h0 → ¬ good h1 → failed .noHeader t) ∧
       (good h0 → ¬ format h0 → failed .badFormat t) ∧
       (good h0 → format h0 → ¬ counts h0 → failed .param t) ∧
       (¬ good h0 → good h1 → ¬ format h1 → failed .badFormat t) ∧
       (¬ good h0 → good h1 → format h1 → ¬ counts h1 → failed .param t))) ∧
  (∀ (l : ImageLoader) (copy i : Nat), l.boot = some (copy, i) → copy ≤ 1 → i < 128 →
     (l.bootPause ≠ 0 → l.bselAsserted = false ∧ l.bclk = false ∧ l.bdo = false) ∧
     (l.bootPause = 0 → l.bselAsserted = true ∧ (l.bclk = true ↔ 2 ≤ l.bootClock % 4) ∧
       l.bdoBytes = [0x03, BitVec.ofNat 8 copy, BitVec.ofNat 8 (16 * i / 256), BitVec.ofNat 8 (16 * i % 256)] ∧
       (∀ n j b, n < 4 → j < 8 → l.bdoBytes[n]? = some b → l.bootClock / 4 = 8 * n + j → l.bdo = b.getLsbD (7 - j)))) ∧
  (∀ bytes : List Byte, bytes.length = 16 → readEvent (bytes.flatMap (fun b =>
     [b.getLsbD 7, b.getLsbD 6, b.getLsbD 5, b.getLsbD 4, b.getLsbD 3, b.getLsbD 2, b.getLsbD 1, b.getLsbD 0])) =
       .granuleRead bytes)

/-- A granule of the merge (section 8.4): taken if it passes; read from the fallback copy if it fails in the primary copy; the
load fails with SERIAL where there is no fallback and with GRANULE where the fallback's granule fails too. After the last granule
the load state is CHECKING. Before the next read BSEL is negated for at least 2 BCLK periods (section 8.2; log entry 36). The
model's choices: a failed test is recorded here, with the load state as it was, and the outcome comes with LOAD_COMPLETION_FAILURE
(log entry 19); a granule of another length than 16 fails its check (log entry 29). -/
def Obligations.MergeGranule : Prop :=
  ∀ (bytes : List Byte) (copy i primary : Nat) (s : State), s.loader.state = .merging →
    s.loader.boot = some (copy, i) → s.loader.chosen = some primary → s.loader.failing = none →
    s.loader.granules ≠ [] →
    let passes : Prop := bytes.length = 16 ∧ crc8 (bytes.take 15) = byteAt bytes 15
    let total : Nat := (byteAt (((s.loader.granules.map (·.data)).getD 0 [])) 5).toNat
    let ended : ImageLoader := { s.loader with boot := none, bootPause := 0, bootClock := 0 }
    Completes (.granuleRead bytes) s (fun t =>
      s.onlyChanges t [.loader, .draws] ∧ t.loader.bselAsserted = false ∧ t.loader.bclk = false ∧ t.loader.bdo = false ∧
      (t.loader.boot ≠ none → 8 ≤ t.loader.bootPause) ∧
      (passes → t.loader.granules = s.loader.granules ++ [{ data := bytes.take 15, copy := copy }] ∧
        t.loader.repaired = s.loader.repaired + copy ∧ t.loader.failing = none ∧
        (i + 1 < total → t.loader.state = .merging ∧ t.loader.boot = some (primary, i + 1)) ∧
        (total ≤ i + 1 → t.loader.state = .checking ∧ t.loader.boot = none)) ∧
      (¬ passes → copy = primary → ∀ f, s.loader.fallback = some f →
        t.loader = { s.loader with boot := some (f, i), bootPause := t.loader.bootPause, bootClock := 0 }) ∧
      (¬ passes → copy = primary → s.loader.fallback = none → t.loader = { ended with failing := some (.serial i) }) ∧
      (¬ passes → copy ≠ primary → t.loader = { ended with failing := some (.granule i) }))

/-- Load completion with success (sections 8.5, 8.6, 1.8, 6.1, 7.1, 7.3): in CHECKING, with an image that passes the tests of
section 8.5, the blocks take their parts of the merged image, read from its bytes: the parameters from granule 1; D, the group,
the four class records and the masks from granules 2 and 3; the sixteen pattern records and the E edges from the granules after
them, the rest of the edge pool being 0. The drive outputs rest: each enabled one shows its idle level XOR invert, a disabled one
is high-impedance, both CHSEL pins are negated (R117 to R119). The station is LISTENING. The levels of TRGA and TRGB that the
filters take at this moment (section 10.2) are operands of the command (log entry 21). -/
def Obligations.LoadSucceeds : Prop :=
  ∀ (a b : Bool) (s : State), s.station = .loading → s.loader.state = .checking → s.loader.failing = none →
    imageAccepted s.loader.granules s.sid →
    let shared := granuleData s.loader.granules 1
    let own := granuleData s.loader.granules 2 ++ granuleData s.loader.granules 3
    let patterns := ((s.loader.granules.drop 4).map (·.data)).flatten
    Completes (.loadCompletionSuccess a b) s (fun t =>
      (∃ c, t.cfg = some c ∧ c.windows = (byteAt shared 0).toNat ∧ c.slots = (byteAt shared 1).toNat ∧
        c.channels = (byteAt shared 2).toNat ∧ c.bitTu = (byteAt shared 3).toNat ∧
        c.slotLen = (halfAt shared 4).toNat ∧ c.gap = (halfAt shared 6).toNat ∧ c.tail = (halfAt shared 8).toNat ∧
        c.divider = (byteAt own 0).toNat ∧ c.group = (byteAt own 1).toNat ∧ c.enableMask = byteAt own 22 ∧
        c.idleMask = byteAt own 23 ∧ c.invertMask = byteAt own 24 ∧ c.fingerprint = crc16 shared ∧
        c.classes.length = 4 ∧ c.patterns.length = 16 ∧ c.edges.length = 128 ∧
        (∀ i, i < 4 →
          ((c.classOf i).source = .none ↔ byteAt own (2 + 5 * i) = 0x00) ∧
          ((c.classOf i).source = .trga ↔ byteAt own (2 + 5 * i) = 0x01) ∧
          ((c.classOf i).source = .trgb ↔ byteAt own (2 + 5 * i) = 0x02) ∧
          ((c.classOf i).source = .periodic ↔ byteAt own (2 + 5 * i) = 0x03) ∧
          (c.classOf i).pattern = (byteAt own (3 + 5 * i)).toNat ∧
          (c.classOf i).priority = (byteAt own (4 + 5 * i)).toNat ∧
          (c.classOf i).limit = (byteAt own (5 + 5 * i)).toNat ∧
          (c.classOf i).maxAge = (byteAt own (6 + 5 * i)).toNat) ∧
        (∀ p, p < 16 → c.patternOf p =
          { span := (byteAt patterns (3 * p)).toNat, first := (byteAt patterns (3 * p + 1)).toNat,
            count := (byteAt patterns (3 * p + 2)).toNat }) ∧
        (∀ j, j < 128 → c.edges[j]? = some
          (if j < edgesHeld s.loader.granules then
            { offset := (halfAt patterns (48 + 4 * j)).toNat, fine := (byteAt patterns (50 + 4 * j)).toNat,
              output := (byteAt patterns (51 + 4 * j)).toNat / 2, level := (byteAt patterns (51 + 4 * j)).getLsbD 0 }
          else { offset := 0, fine := 0, output := 0, level := false })) ∧
        t.alloc.table = List.replicate c.slots (List.replicate c.channels none) ∧ t.engine.levels = c.idleMask) ∧
      t.loader = { s.loader with state := .loaded, result := .success, reason := .none } ∧
      t.station = .listening ∧ t.membership.observation = .unaligned ∧ t.membership.listenRef = none ∧
      (∀ k, t.peer k = PeerEntry.cleared) ∧ t.membership.heardMap = 0 ∧
      t.timer.mode = .searching ∧ t.timer.value = 0 ∧ t.timer.frame = 0 ∧ t.timer.markLow = 0 ∧ t.timer.silence = 0 ∧
      t.alloc.status = .none ∧ t.engine.mode = .idle ∧ t.exposing = some false ∧ t.chsel = some 0 ∧
      t.chselPins = some (false, false) ∧
      (∀ c, t.cfg = some c → ∀ i, i < 8 → t.drv i =
        if c.enableMask.getLsbD i then some (c.idleMask.getLsbD i != c.invertMask.getLsbD i) else none) ∧
      t.demand = { s.demand with trga := { high := a, run := 0 }, trgb := { high := b, run := 0 } } ∧
      s.onlyChanges t [.config, .timer, .membership, .alloc, .demand, .engine, .loader])

/-- Load completion with failure (section 8.6): the result, the reason, FAILED, LOAD_FAILED with FAULT, and nothing else. The
reason is that of a granule or header test that failed. In CHECKING it is that of the first test of section 8.5 that fails: PARAM
for a shared parameter, D, the group or a zero byte; STATION_RANGE for a station number of N or more; CLASS for a class record;
PATTERN for an edge, a directory entry or a pattern. -/
def Obligations.LoadFails : Prop :=
  ∀ s : State,
    let failed : LoadReason → State → Prop := fun why t =>
      t.loader.state = .failed ∧ t.loader.result = .failure ∧ t.loader.reason = why ∧ t.loader.bselAsserted = false ∧
      t.loader.bclk = false ∧ t.loader.bdo = false ∧
      t.loader.repaired = s.loader.repaired ∧ t.loader.granules = s.loader.granules ∧
      t.membership = { s.membership with station := .loadFailed } ∧ t.faultPin = true ∧ t.link = false ∧
      s.onlyChanges t [.loader, .membership]
    let image := s.loader.granules
    (∀ why, s.loader.failing = some why → Completes .loadCompletionFailure s (failed why)) ∧
    (s.loader.failing = none → s.loader.state = .checking →
      (¬ imageParams image → Completes .loadCompletionFailure s (failed .param)) ∧
      (imageParams image → imageWindows image ≤ s.sid.toNat →
        Completes .loadCompletionFailure s (failed .stationRange)) ∧
      (imageParams image → s.sid.toNat < imageWindows image → ¬ (∀ i, i < 4 → imageClass image i) →
        Completes .loadCompletionFailure s (failed .cls)) ∧
      (imageParams image → s.sid.toNat < imageWindows image → (∀ i, i < 4 → imageClass image i) → ¬ imagePatterns image →
        Completes .loadCompletionFailure s (failed .pattern)))

/-- An image that passes every test of CHECKING gives a configuration in the ranges the other blocks rely on (sections 8.5, 7.1):
the shared parameters, D and the group, the station number below N, the class records in use, and every pattern's span, edge run,
offsets and order. -/
def Obligations.AcceptedImageInRange : Prop :=
  ∀ (image : List MergedGranule) (sid : BitVec 4), checkingFailure image sid = none →
    let c := settingsOf image
    c.inRange ∧ sid.toNat < c.windows ∧
    (∀ i, i < 4 → (c.classOf i).source ≠ .none →
      (c.classOf i).pattern ≤ 15 ∧ (c.classOf i).priority ≤ 3 ∧ 1 ≤ (c.classOf i).limit ∧ (c.classOf i).limit ≤ 4 ∧
      1 ≤ (c.classOf i).maxAge ∧ (c.classOf i).maxAge ≤ 31) ∧
    (∀ i j, i < 4 → j < 4 → (c.classOf i).triggered = true → (c.classOf i).source = (c.classOf j).source → i = j) ∧
    (∀ p, p < 16 →
      ((c.patternOf p).span = 1 ∨ (c.patternOf p).span = 2) ∧ (c.patternOf p).count ≤ 32 ∧
      (c.patternEdges p).length = (c.patternOf p).count ∧
      (∀ e ∈ c.patternEdges p, e.offset < (c.patternOf p).span * c.slotLen) ∧
      (c.patternEdges p).Pairwise (fun a b => a.offset < b.offset ∨ (a.offset = b.offset ∧ a.fine ≤ b.fine)))

/-! ### The frame (chapter 1) -/

/-- The table of section 1.4 with the order of R5: the phase events of a frame with their frame timer values, each at its place,
in non-decreasing order of value, expiry last. -/
def Obligations.PhaseEventTable : Prop :=
  ∀ c : Settings, c.inRange →
    (∀ k, k < c.windows → c.schedule[c.placeClaim k]? = some (24 + 160 * c.bitTu * k, .claimWindowStart k)) ∧
    c.schedule[c.placeClaimClose]? = some (24 + 160 * c.windows * c.bitTu, .claimPhaseClose) ∧
    (∀ k, k < c.windows → c.schedule[c.placeDigest k]? =
      some (24 + 160 * c.windows * c.bitTu + c.gap + 80 * c.bitTu * k, .digestWindowStart k)) ∧
    c.schedule[c.placeDigestClose]? = some (24 + 240 * c.windows * c.bitTu + c.gap, .digestPhaseClose) ∧
    (∀ k, k < c.slots → c.schedule[c.placeSlotStart k]? =
      some (40 + 240 * c.windows * c.bitTu + c.gap + c.slotLen * k, .slotStart k)) ∧
    (∀ k, k < c.slots → c.schedule[c.placeSlotEnd k]? =
      some (40 + 240 * c.windows * c.bitTu + c.gap + c.slotLen * (k + 1), .slotEnd k)) ∧
    c.schedule[c.placeExpiry]? =
      some (40 + 240 * c.windows * c.bitTu + c.gap + c.slots * c.slotLen + c.tail, .expiry) ∧
    c.schedule.length = c.placeExpiry + 1 ∧
    (c.schedule.map Prod.fst).Pairwise (fun x y => x ≤ y)

/-- A falling edge of FRM in SEARCHING, RUNNING or HOLDING begins a frame in every block (sections 1.5, 4.2, 5.1): the timer runs
from 0, the frame number is one more (but for the mark that ends LISTENING), everything of the frame before is cleared, the
previous verdict takes the verdict, and a station that keeps its peer table forms its heard map and clears the flags. An event of
section 1.4 that falls at the frame timer value of the mark, or the expiry at a mark in the tail, is not emitted where the mark is
taken first (R12): its command directly after the mark changes nothing but that it has been passed over (log entry 33). -/
def Obligations.MarkBeginsFrame : Prop :=
  (∀ (s : State) (c : Settings), s.cfg = some c → s.timer.frmLow = false → s.timer.mode.monitors = true →
    Completes .mark s (fun t =>
      t.timerRestarted false ∧ s.frameCleared t c ∧
      (s.station ≠ .listening → t.timer.frame = s.timer.frame + 1) ∧
      (s.station = .listening ∨ s.station = .joining ∨ s.station = .member →
        ∀ k, k < 16 → t.membership.heardMap.getLsbD k = (s.peer k).heard ∧ t.peer k = { s.peer k with heard := false }) ∧
      s.onlyChanges t [.timer, .bus, .membership, .alloc, .agree, .demand, .engine, .events, .counters])) ∧
  (∀ (s : State) (c : Settings) (p v : Nat) (i : Instr), s.cfg = some c → s.timer.frmLow = false →
    s.timer.mode = .running → c.schedule[p]? = some (v, i) → s.timer.emitted ≤ p →
    (s.timer.value = v ∨ (i = .expiry ∧ c.frameLength - c.tail ≤ s.timer.value)) →
    Completes .mark s (fun t => t.timerRestarted false ∧
      Completes i t (fun u => u = { t with timer := { t.timer with lapsed := t.timer.lapsed.erase p } })))

/-- Section 1.5: a mark in RUNNING before the tail is a runt, counted and recorded before anything else with the number of the
frame it cuts short and the slot in progress; a mark in the tail, in HOLDING or in SEARCHING is not. What the Event Queue makes of
the records offered (section 9.4, R155): each is appended at the back while the queue holds fewer than 32; one offered to a full
queue is discarded, which sets the overflow flag and the mark of a discard (section 9.2, R150). With 31 records the RUNT record is
the last that fits; with 32 it is lost. -/
def Obligations.RuntIsCountedAndRecorded : Prop :=
  ∀ (s : State) (c : Settings), s.cfg = some c → s.timer.frmLow = false →
    (s.runtDue c → Completes .mark s (fun t =>
      t.counters.runtMarks = BitVec.ofNat 16 (min (s.counters.runtMarks.toNat + 1) 65535) ∧
      ∃ (r : EventRecord) (rs : List EventRecord), s.runtRecordIs c r ∧ t.events = rs.foldl EventQueue.offer (s.events.offer r) ∧
        (∀ x ∈ rs, x.kind ≠ .runt) ∧
        (s.events.records.length ≤ 32 → t.events.records = (s.events.records ++ r :: rs).take 32) ∧
        (s.events.records.length = 32 →
          t.events = { records := s.events.records, overflow := true, discarded := true }) ∧
        (s.events.records.length = 31 → t.events.records = s.events.records ++ [r] ∧
          t.events.overflow = (s.events.overflow || decide (rs ≠ [])) ∧
          t.events.discarded = (s.events.discarded || decide (rs ≠ []))) ∧
        (s.events.records.length + 1 + rs.length ≤ 32 →
          t.events = { s.events with records := s.events.records ++ r :: rs }))) ∧
    (s.normalDue c ∨ s.timer.mode = .searching → Completes .mark s (fun t =>
      t.counters.runtMarks = s.counters.runtMarks ∧
      ∃ rs : List EventRecord, t.events = rs.foldl EventQueue.offer s.events ∧ ∀ x ∈ rs, x.kind ≠ .runt))

/-- A normal mark at a MEMBER (sections 6.7, 7.6). With the engine IDLE (and so at an aligning mark), entries below their max age
are one mark older and PENDING, and the others leave with EXPIRED records in queue order under the new frame number. An exposure
that is still running ends first with its report: outputs at rest, the entry retired with EXPOSED, the exposures counter. -/
def Obligations.NormalMarkAtMember : Prop :=
  (∀ (s : State) (c : Settings), s.cfg = some c → s.timer.frmLow = false →
     (s.normalDue c ∨ s.timer.mode = .searching) → s.station = .member → s.engine.mode = .idle →
     Completes .mark s (fun t =>
       t.station = .member ∧ t.demand.entries = survivors c s.demand.entries ∧
       t.counters = s.counters.add .expiries (overAge c s.demand.entries).length ∧
       t.events = ((overAge c s.demand.entries).map (expiredRecord (s.timer.frame + 1))).foldl EventQueue.offer s.events ∧
       t.engine.mode = .idle ∧ t.engine.levels = s.engine.levels)) ∧
  (∀ (s : State) (c : Settings) (r : RunningPattern) (it : ExposureItem), s.cfg = some c → s.timer.frmLow = false →
     s.normalDue c → s.station = .member → s.engine.mode = .running r →
     s.demand.itemAt r.slot r.channel = some it →
     let rest := if it.request.isSome then
         s.demand.entries.filter (fun e => decide (e.bound ≠ some (it.slot, it.channel)))
       else s.demand.entries
     Completes .mark s (fun t =>
       t.engine.mode = .idle ∧ t.engine.levels = c.idleMask ∧ t.exposing = some false ∧ t.chsel = some 0 ∧
       t.demand.entries = survivors c rest ∧
       t.counters = (s.counters.add .exposures 1).add .expiries (overAge c rest).length ∧
       t.events = ({ kind := .exposed, frame := s.timer.frame + 1, cls := some it.cls, request := it.request,
                     slot := some it.slot, channel := some it.channel } ::
           (overAge c rest).map (expiredRecord (s.timer.frame + 1))).foldl EventQueue.offer s.events))

/-- A runt at a MEMBER (sections 1.5; 6.7, R111, R112; 7.7, R127). One that finds an exposure running aborts it: the outputs rest,
the RUNNING item's entry leaves with ABORTED, and every other bound entry is PENDING again in its place. One that finds the engine
IDLE aborts nothing: every scheduled entry is PENDING again in its place. In both cases the RUNT record comes first, and then the
queue ages as at any mark. -/
def Obligations.RuntAbortsExposure : Prop :=
  (∀ (s : State) (c : Settings) (r : RunningPattern) (it : ExposureItem), s.cfg = some c → s.timer.frmLow = false →
    s.runtDue c → s.station = .member → s.engine.mode = .running r →
    s.demand.exposures.find? (·.running) = some it →
    let rest := if it.request.isSome then
        s.demand.entries.filter (fun e => decide (e.bound ≠ some (it.slot, it.channel)))
      else s.demand.entries
    Completes .mark s (fun t =>
      t.station = .member ∧ t.engine.mode = .idle ∧ t.engine.levels = c.idleMask ∧ t.exposing = some false ∧
      t.chsel = some 0 ∧ t.demand.entries = survivors c rest ∧
      t.counters = ((s.counters.add .runtMarks 1).add .aborts 1).add .expiries (overAge c rest).length ∧
      ∃ runt, s.runtRecordIs c runt ∧
        t.events = (runt :: { kind := .aborted, frame := s.timer.frame + 1, cls := some it.cls, request := it.request,
                              slot := some it.slot, channel := some it.channel } ::
          (overAge c rest).map (expiredRecord (s.timer.frame + 1))).foldl EventQueue.offer s.events)) ∧
  (∀ (s : State) (c : Settings), s.cfg = some c → s.timer.frmLow = false → s.runtDue c → s.station = .member →
    s.engine.mode = .idle → (∀ it ∈ s.demand.exposures, it.running = false) →
    Completes .mark s (fun t =>
      t.station = .member ∧ t.engine.mode = .idle ∧ t.engine.levels = s.engine.levels ∧
      t.demand.entries = survivors c s.demand.entries ∧ t.demand.exposures = [] ∧
      t.counters = (s.counters.add .runtMarks 1).add .expiries (overAge c s.demand.entries).length ∧
      ∃ runt, s.runtRecordIs c runt ∧
        t.events = (runt :: (overAge c s.demand.entries).map (expiredRecord (s.timer.frame + 1))).foldl
          EventQueue.offer s.events))

/-- The station states that a mark moves, and those it leaves (sections 3.4, 3.8, 3.9). In LISTENING a normal mark in OBSERVING
ends LISTENING with the listening reference plus one, or the count of marks where there is none; any other mark leaves it
OBSERVING a new frame without a reference. A LEAVING station is OFFLINE at the next mark of any class, with LEFT under the new
frame number. In JOINING, MEMBER, OFFLINE and ISOLATED a mark of any class leaves the station state as it is, and of the
membership only the heard map and the heard flags move; where those are clear, as in OFFLINE and ISOLATED, nothing of it moves
(R60: no step at marks). -/
def Obligations.MarkMovesTheStation : Prop :=
  (∀ (s : State) (c : Settings), s.cfg = some c → s.timer.frmLow = false → s.station = .listening →
     s.timer.mode.monitors = true →
     (s.normalDue c → s.membership.observation = .observing → Completes .mark s (fun t =>
       t.station = .joining ∧ t.membership.joiningSent = 0 ∧ t.membership.joiningFrames = 0 ∧
       (∀ f, s.membership.listenRef = some f → t.timer.frame = f + 1) ∧
       (s.membership.listenRef = none → t.timer.frame = s.timer.frame + 1))) ∧
     (¬ s.normalDue c ∨ s.membership.observation = .unaligned → Completes .mark s (fun t =>
       t.station = .listening ∧ t.membership.observation = .observing ∧ t.membership.listenRef = none ∧
       t.timer.frame = s.timer.frame + 1))) ∧
  (∀ (s : State) (c : Settings), s.cfg = some c → s.timer.frmLow = false → s.timer.mode.monitors = true →
     s.station = .leaving →
     Completes .mark s (fun t =>
       t.station = .offline ∧ (∀ k, t.peer k = PeerEntry.cleared) ∧ t.membership.heardMap = 0 ∧
       t.membership.streak = 0 ∧ t.membership.foreignOnly = 0 ∧ t.membership.joiningSent = 0 ∧
       t.membership.joiningFrames = 0 ∧ t.membership.leavePending = false ∧
       ∃ rs : List EventRecord, t.events =
         (rs.foldl EventQueue.offer s.events).offer { kind := .left, frame := s.timer.frame + 1 })) ∧
  (∀ (s : State) (c : Settings), s.cfg = some c → s.timer.frmLow = false → s.timer.mode.monitors = true →
     s.station ≠ .listening → s.station ≠ .leaving →
     Completes .mark s (fun t =>
       t.station = s.station ∧ t.timer.frame = s.timer.frame + 1 ∧
       t.membership = { s.membership with heardMap := t.membership.heardMap, peers := t.membership.peers } ∧
       (∀ k, t.peer k = { s.peer k with heard := false }) ∧
       ((∀ k, s.peer k = PeerEntry.cleared) → s.membership.heardMap = 0 → t.membership = s.membership)))

/-- Expiry (section 1.5). In JOINING, MEMBER and LEAVING the station pulls FRM and takes its own pull as a normal mark; a falling
edge that comes with it is part of the same fall (R12). In LISTENING, OFFLINE and ISOLATED it does not pull: HOLDING at L with the
frame number unchanged, and the next falling edge is a normal mark. That no phase event comes in HOLDING is stated as: the command
of each leaves the state unchanged (log entry 2), where no event of the frame before is still to be passed over (log entry 33). -/
def Obligations.Expiry : Prop :=
  (∀ (s : State) (c : Settings), s.awaits c c.placeExpiry →
     (s.station = .joining ∨ s.station = .member ∨ s.station = .leaving) →
     Completes .expiry s (fun t =>
       t.timerRestarted true ∧ t.frmPulled = true ∧ t.timer.frame = s.timer.frame + 1 ∧ s.frameCleared t c ∧
       t.counters.runtMarks = s.counters.runtMarks ∧
       (t.station = if s.station = .leaving then .offline else s.station) ∧ Completes .mark t (fun u => u = t) ∧
       s.onlyChanges t [.timer, .bus, .membership, .alloc, .agree, .demand, .engine, .events, .counters])) ∧
  (∀ (s : State) (c : Settings), s.awaits c c.placeExpiry →
     (s.station = .listening ∨ s.station = .offline ∨ s.station = .isolated) →
     Completes .expiry s (fun t =>
       t.timer.mode = .holding ∧ t.timer.value = c.frameLength ∧ t.timer.frame = s.timer.frame ∧
       t.timer.ownPull = s.timer.ownPull ∧ t.timer.frmLow = s.timer.frmLow ∧ s.engineKept t ∧
       s.onlyChanges t [.timer, .engine] ∧
       (s.timer.lapsed = [] → ∀ i ∈ c.schedule.map Prod.snd, Completes i t (fun u => u = t)) ∧
       (t.timer.frmLow = false → Completes .mark t (fun u =>
         u.timerRestarted false ∧ u.counters.runtMarks = t.counters.runtMarks))))

/-- The end of a low period of FRM (sections 1.5, 1.7). The own pull ends at frame timer value 8, and the line stays as it is
until it rises. At the rise the mark-low duration is 0 and FAULTED becomes SEARCHING, and nothing else changes, where no
self-start waits for it. While the station itself pulls, the line cannot rise, and the command of such a rise leaves the state
unchanged (log entry 2). -/
def Obligations.FrmIsReleasedAndRises : Prop :=
  (∀ (s : State) (c : Settings), s.cfg = some c → s.timer.ownPull = true →
     Completes .frmPullEnd s (fun t =>
       t.frmPulled = false ∧ t.timer.frmLow = s.timer.frmLow ∧ t.timer.mode = s.timer.mode ∧
       t.timer.frame = s.timer.frame ∧ (s.timer.mode = .running → s.timer.value ≤ 8 → t.timer.value = 8) ∧
       s.engineKept t ∧ s.onlyChanges t [.timer, .engine])) ∧
  (∀ (s : State), s.timer.frmLow = true →
     (s.timer.ownPull = false → (∀ c, s.cfg = some c → s.timer.silence < 2 * c.frameLength) →
       Completes .frmRisingEdge s (fun t =>
         t.timer.frmLow = false ∧ t.timer.markLow = 0 ∧
         (t.timer.mode = if s.timer.mode = .faulted then .searching else s.timer.mode) ∧
         t.timer.value = s.timer.value ∧ t.timer.frame = s.timer.frame ∧ t.timer.silence = s.timer.silence ∧
         s.onlyChanges t [.timer])) ∧
     (s.timer.ownPull = true → Completes .frmRisingEdge s (fun t => t = s)))

/-- A self-start (section 1.8): with FRM high when the silence timer reaches 2L, or at the rise of FRM for which it was deferred,
the station pulls, its frame number is 0 and it is JOINING. With FRM low in FAULTED the silence timer is held at 2L. A falling
edge taken first is a mark, which restarts the silence timer, and then no self-start takes place (R19; the command of one changes
nothing, log entry 32). -/
def Obligations.SelfStart : Prop :=
  ∀ (s : State) (c : Settings), s.cfg = some c → s.station = .listening → s.timer.mode ≠ .stopped →
    let started : State → Prop := fun t =>
      t.timerRestarted true ∧ t.timer.frame = 0 ∧ t.station = .joining ∧ t.membership.joiningSent = 0 ∧
      t.membership.joiningFrames = 0 ∧ s.frameCleared t c ∧ t.counters.runtMarks = s.counters.runtMarks
    (s.timer.frmLow = false → Completes .selfStart s started) ∧
    (s.timer.frmLow = true → s.timer.mode = .faulted → s.timer.silence ≤ 2 * c.frameLength →
      Completes .selfStart s (fun t =>
        t.timer.silence = 2 * c.frameLength ∧ t.station = .listening ∧ t.timer.mode = .faulted ∧
        t.timer.ownPull = s.timer.ownPull ∧ s.onlyChanges t [.timer, .engine])) ∧
    (s.timer.frmLow = true → s.timer.ownPull = false → s.timer.silence = 2 * c.frameLength →
      Completes .frmRisingEdge s started) ∧
    (s.timer.frmLow = false → s.timer.mode.monitors = true → Completes .mark s (fun t =>
      t.timer.silence = 0 ∧ t.timer.ownPull = false ∧ Completes .selfStart t (fun u => u = t)))

/-- A bus fault (section 1.7, R15): counted, recorded under the current frame number, the station states of the table, an end to
transmission, table and exposure, and FAULTED. A MEMBER's queue is cancelled, front to back, each entry with its CANCELLED record
under the number from before (R113); an entry whose exposure is RUNNING leaves first, with ABORTED, counted, in place of
CANCELLED. A LEAVING station offers LEFT (R41). There is no other record. The model's choices: BUS_FAULT is the first of the
records that come with it (log entry 22), and in LISTENING the listening reference stands (log entry 27). -/
def Obligations.BusFault : Prop :=
  ∀ (s : State) (c : Settings), s.cfg = some c → s.timer.mode.monitors = true → s.timer.frmLow = true →
    s.timer.ownPull = false →
    Completes .busFault s (fun t =>
      t.timer.mode = .faulted ∧ t.timer.value = 0 ∧ t.timer.markLow = 0 ∧ t.timer.frmLow = true ∧
      t.counters.busFaults = BitVec.ofNat 16 (min (s.counters.busFaults.toNat + 1) 65535) ∧
      ((s.station = .member → ∀ it ∈ s.demand.exposures, it.running = false) →
        t.counters = s.counters.add .busFaults 1 ∧
        t.events = (match s.station with
          | .member => s.demand.entries.map (cancelledRecord s.timer.frame)
          | .leaving => [{ kind := .left, frame := s.timer.frame }]
          | _ => []).foldl EventQueue.offer (s.events.offer { kind := .busFault, frame := s.timer.frame })) ∧
      (∀ it, s.station = .member → s.demand.exposures.find? (·.running) = some it →
        t.counters = (s.counters.add .busFaults 1).add .aborts 1 ∧
        t.events = ((if it.request.isSome then
            s.demand.entries.filter (fun e => decide (e.bound ≠ some (it.slot, it.channel)))
          else s.demand.entries).map (cancelledRecord s.timer.frame)).foldl EventQueue.offer
            ((s.events.offer { kind := .busFault, frame := s.timer.frame }).offer
              { kind := .aborted, frame := s.timer.frame, cls := some it.cls, request := it.request, slot := some it.slot,
                channel := some it.channel })) ∧
      (t.station = match s.station with
        | .joining => .listening
        | .member => .listening
        | .leaving => .offline
        | other => other) ∧
      (s.station = .joining ∨ s.station = .member → t.timer.frame = 0 ∧ t.timer.silence = 0) ∧
      (s.station = .member → t.demand.entries = [] ∧ t.demand.claimRecord = [] ∧ t.demand.exposures = [] ∧
        t.agree.verdict = .none ∧ t.agree.ownDigest = none ∧ t.link = false) ∧
      (s.station = .listening → t.membership = { s.membership with observation := .unaligned }) ∧
      t.bus.tx = .idle ∧ t.bus.claimRecords = s.bus.claimRecords ∧ t.bus.digestRecords = s.bus.digestRecords ∧
      t.alloc.status = .none ∧ (∀ r, t.engine.mode ≠ .running r) ∧
      s.onlyChanges t [.timer, .bus, .membership, .alloc, .agree, .demand, .engine, .events, .counters])

/-! ### The slot bus (chapter 2) -/

/-- A claim window opens (sections 1.4, 2.2, 2.4, 6.4). In another station's window the receiver alone begins its search. In its
own, a JOINING or LEAVING station begins a lead-in and a LISTENING, OFFLINE or ISOLATED one only receives; the own claim record is
empty. -/
def Obligations.ClaimWindowWithoutClaims : Prop :=
  (∀ (k : Nat) (s : State) (c : Settings), s.awaits c k → k < c.windows → k ≠ s.me →
     s.timer.value ≤ 24 + 160 * c.bitTu * k →
     Completes (.claimWindowStart k) s (fun t =>
       t.timer.value = 24 + 160 * c.bitTu * k ∧ t.timer.mode = .running ∧ t.timer.frame = s.timer.frame ∧
       t.timer.emitted = k + 1 ∧ t.bus = { s.bus with window := some (.claim, k) } ∧ s.engineKept t ∧
       s.onlyChanges t [.timer, .bus, .engine])) ∧
  (∀ (s : State) (c : Settings), s.awaits c s.me → s.me < c.windows → s.station ≠ .member →
     Completes (.claimWindowStart s.me) s (fun t =>
       t.demand = { s.demand with claimRecord := [] } ∧ t.bus.window = some (.claim, s.me) ∧
       (s.station = .joining ∨ s.station = .leaving → 
         t.bus.tx = .leadIn .claim s.station s.timer.frame s.membership.heardMap) ∧
       (s.station = .listening ∨ s.station = .offline ∨ s.station = .isolated → t.bus.tx = s.bus.tx) ∧
       s.engineKept t ∧ s.onlyChanges t [.timer, .bus, .demand, .engine]))

/-- The own claim window opens at a MEMBER without leave pending (sections 2.3, 6.4): the lead-in begins and the own claim record
holds, in ascending class order, exactly one claim for each periodic class, with its limit, and for each triggered class with
PENDING entries, with the lesser of their number and the limit; each has the class's priority and its pattern's span. -/
def Obligations.OwnClaimsAreFormed : Prop :=
  ∀ (s : State) (c : Settings), s.awaits c s.me → s.me < c.windows → s.station = .member →
    s.membership.leavePending = false →
    let waiting : Nat → Nat := fun i => (s.demand.entries.filter (fun e => e.cls == i && e.bound == none)).length
    Completes (.claimWindowStart s.me) s (fun t =>
      (∀ x, x ∈ t.demand.claimRecord ↔ x.cls < 4 ∧ x.priority = (c.classOf x.cls).priority ∧
        x.span = (c.patternOf (c.classOf x.cls).pattern).span ∧
        (((c.classOf x.cls).source = .periodic ∧ x.count = (c.classOf x.cls).limit) ∨
          (((c.classOf x.cls).source = .trga ∨ (c.classOf x.cls).source = .trgb) ∧ waiting x.cls ≠ 0 ∧
            x.count = min (waiting x.cls) (c.classOf x.cls).limit))) ∧
      (t.demand.claimRecord.map (·.cls)).Pairwise (fun x y => x < y) ∧
      t.demand = { s.demand with claimRecord := t.demand.claimRecord } ∧
      t.bus = { s.bus with
        tx := .leadIn .claim .member s.timer.frame s.membership.heardMap, window := some (.claim, s.me) } ∧
      t.datPulled = false ∧ s.engineKept t ∧ s.onlyChanges t [.timer, .bus, .demand, .engine])

/-- The own claim window opens at a MEMBER with leave pending (sections 3.9, R62; 6.8, R113; 5.1, R85): LEAVING, every entry
cancelled front to back under the current frame number, no claim, and the lead-in of the LEAVING announcement. -/
def Obligations.LeavePendingBecomesLeaving : Prop :=
  ∀ (s : State) (c : Settings), s.awaits c s.me → s.me < c.windows → s.station = .member →
    s.membership.leavePending = true → (∀ it ∈ s.demand.exposures, it.running = false) →
    Completes (.claimWindowStart s.me) s (fun t =>
      t.station = .leaving ∧ t.membership = { s.membership with station := .leaving, leavePending := false } ∧
      t.link = false ∧ t.demand = { s.demand with entries := [], claimRecord := [], exposures := [] } ∧
      t.events = (s.demand.entries.map (cancelledRecord s.timer.frame)).foldl EventQueue.offer s.events ∧
      t.agree = { s.agree with verdict := .none, ownDigest := none } ∧
      t.bus = { s.bus with
        tx := .leadIn .claim .leaving s.timer.frame s.membership.heardMap, window := some (.claim, s.me) } ∧
      s.engineKept t ∧ s.onlyChanges t [.timer, .bus, .membership, .agree, .demand, .engine, .events])

/-- A digest window opens (sections 1.4, 2.2, 2.3): a MEMBER with its digest begins the lead-in in its own window; in every other
case the receiver alone begins its search. That the lead-in begins whatever the transmitter's state, DONE with the claim window
among them, is the model's reading (log entry 10: R25 names IDLE as the state left, and lets DONE stand until the next mark or own
window). -/
def Obligations.DigestWindowOpens : Prop :=
  ∀ (k : Nat) (s : State) (c : Settings), s.awaits c (c.windows + 1 + k) → k < c.windows →
    s.timer.value ≤ 24 + 160 * c.windows * c.bitTu + c.gap + 80 * c.bitTu * k →
    Completes (.digestWindowStart k) s (fun t =>
      t.timer.value = 24 + 160 * c.windows * c.bitTu + c.gap + 80 * c.bitTu * k ∧
      t.timer.emitted = c.windows + 2 + k ∧ t.timer.frame = s.timer.frame ∧
      (k = s.me → s.station = .member → s.agree.ownDigest.isSome = true →
        t.bus = { s.bus with
          tx := .leadIn .digest .member s.timer.frame s.membership.heardMap, window := some (.digest, k) }) ∧
      (k ≠ s.me ∨ s.station ≠ .member ∨ s.agree.ownDigest = none →
        t.bus = { s.bus with window := some (.digest, k) }) ∧
      s.engineKept t ∧ s.onlyChanges t [.timer, .bus, .engine])

/-- The content fixed at the end of the lead-in (sections 2.2, 2.3): the fields of R24, by the state then in force. A station that
was JOINING at the window's start sends its JOINING announcement whatever its state now (R23). The frame number and the heard map
are those of the window's start, which the lead-in holds: a LEAVE or REJOIN taken in between does not change the announcement
(R24; log entry 30). -/
def Obligations.ContentIsFixedAtLeadInEnd : Prop :=
  ∀ (s : State) (c : Settings) (frame : Byte) (heard : Half), s.cfg = some c →
    let sent : WindowKind → List Byte → State → Prop := fun kind bytes t =>
      t.bus = { s.bus with tx := .sending kind bytes } ∧ s.engineKept t ∧ s.onlyChanges t [.timer, .bus, .engine]
    let message : Bool → Bool → List Claim → Announcement := fun joining leaving claims =>
      { station := s.me, group := c.group, frame := frame, joining := joining, leaving := leaving,
        held := decide (s.agree.previous = .holdoff), fingerprint := c.fingerprint, heardMap := heard, claims := claims }
    (s.bus.tx = .leadIn .claim .joining frame heard →
      Completes .leadInEnd s (sent .claim (message true false []).encode)) ∧
    (s.bus.tx = .leadIn .claim .member frame heard → s.station = .member →
      Completes .leadInEnd s (sent .claim (message false false s.demand.claimRecord).encode)) ∧
    (s.bus.tx = .leadIn .claim .leaving frame heard → s.station = .leaving →
      Completes .leadInEnd s (sent .claim (message false true []).encode)) ∧
    (∀ d, s.bus.tx = .leadIn .digest .member frame heard → s.station = .member → s.agree.ownDigest = some d →
      Completes .leadInEnd s
        (sent .digest (DigestMessage.encode { station := s.me, frame := s.timer.frame, digest := d })))

/-- The transmission ends at the sample of the last stop bit with outcome SENT (section 2.3): that is bit 10·n − 1 of the message,
which begins 2 + 10·n − 1 bit times after the window's start, and its sample comes floor(B·D/2) REFCLK periods later (section
2.1), to the period. -/
def Obligations.MessageIsSent : Prop :=
  ∀ (kind : WindowKind) (bytes : List Byte) (s : State) (c : Settings), s.cfg = some c →
    s.bus.tx = .sending kind bytes → s.timer.mode = .running →
    let sample := c.windowStart kind s.me + (1 + 10 * bytes.length) * c.bitTu + c.bitTu * c.divider / 2 / c.divider
    let clocks := c.bitTu * c.divider / 2 % c.divider
    s.timer.value < sample ∨ (s.timer.value = sample ∧ s.timer.prescaler ≤ clocks) → sample ≤ c.frameLength →
    Completes .messageSent s (fun t =>
      t.bus = { s.bus with tx := .done kind .sent } ∧ t.timer.value = sample ∧ t.timer.prescaler = clocks ∧
      t.timer.frame = s.timer.frame ∧ t.datPulled = false ∧ s.engineKept t ∧ s.onlyChanges t [.timer, .bus, .engine])

/-- A mismatch at a bit that the transmitter releases (section 2.3): COLLIDED, counted, and recorded with the kind of window, at
that bit's sample point, floor(B·D/2) REFCLK periods after the bit's start (section 2.1). The record is appended with room, and
otherwise lost with the overflow flag set (section 9.4, R155). The operand and the released bits are the model's (log entry 11).
-/
def Obligations.CollisionEndsTransmission : Prop :=
  ∀ (kind : WindowKind) (bit : Nat) (s : State) (c : Settings), s.cfg = some c →
    let sample := c.windowStart kind s.me + bit * c.bitTu + c.bitTu * c.divider / 2 / c.divider
    let clocks := c.bitTu * c.divider / 2 % c.divider
    let record : EventRecord :=
      { kind := .collision, frame := s.timer.frame, channel := some (match kind with | .claim => 0 | .digest => 1) }
    let collided : State → Prop := fun t =>
      t.bus = { s.bus with tx := .done kind .collided } ∧ t.datPulled = false ∧
      t.counters = s.counters.add .collisions 1 ∧
      t.events = s.events.offer record ∧
      (s.events.records.length < 32 → t.events = { s.events with records := s.events.records ++ [record] }) ∧
      (32 ≤ s.events.records.length → t.events = { s.events with overflow := true, discarded := true }) ∧
      (s.timer.mode = .running → sample ≤ c.frameLength →
        s.timer.value < sample ∨ (s.timer.value = sample ∧ s.timer.prescaler ≤ clocks) →
        t.timer.value = sample ∧ t.timer.prescaler = clocks) ∧
      s.engineKept t ∧ s.onlyChanges t [.timer, .bus, .engine, .events, .counters]
    (∀ st frame heard, s.bus.tx = .leadIn kind st frame heard → bit < 2 → Completes (.collision bit) s collided) ∧
    (∀ bytes, s.bus.tx = .sending kind bytes → bit < 2 → bytes ≠ [] → Completes (.collision bit) s collided) ∧
    (∀ bytes j, s.bus.tx = .sending kind bytes → bit = 2 + j → (messageBits bytes)[j]? = some true →
      Completes (.collision bit) s collided) ∧
    (∀ bytes j, s.bus.tx = .sending kind bytes → bit = 2 + j → (messageBits bytes)[j]? = some false →
      Completes (.collision bit) s (fun t => t = s))

/-- What a window settles to (sections 2.2 to 2.5), but for the whole messages of the next two statements.
- The own window in which a message was called for: the transmit outcome, neither counted nor handed over; for a MEMBER's digest
window without its digest, NONE (section 2.2).
- A peer's window, and the own window of a station that sends nothing in it (R35, log entry 12), for every waveform that the
operand can say (log entry 8), where a sample at the very period of a level change reads the level after it (log entry 35): either
window of a LISTENING, OFFLINE or ISOLATED station, and the digest window of every station that is not MEMBER, though its
transmitter may still be DONE with its claim window. SILENT, counted nowhere, when the start search, resumed after every false
start, accepts no edge (R29, log entry 9). DAMAGED, counted once, when after the start edges of one or more bytes, the first found
after any false starts, a start bit reads 1, a stop bit reads 0, the settle point comes before the last byte, the next start edge
is missing, or an edge follows the last byte; when an announcement's claim count is 5 to 7; and when the whole bytes fail the
kind, owner, content or check condition of R32. Nothing is handed over.
- The own window of a station that sends nothing in it, with another station's whole message under the same number, as the
waveform of its bytes or on any line that carries them, also one with false starts before the first start edge (R29): an
announcement is INTACT or FOREIGN and a digest message INTACT, counted as in any window; the peer table and the digest store stand
(R35). -/
def Obligations.OtherWindowsSettle : Prop :=
  (∀ (kind : WindowKind) (o : TxOutcome) (line : DatLine) (s : State) (c : Settings), s.cfg = some c →
     s.bus.window = some (kind, s.me) →
     (s.bus.tx = .done kind o ∨
       (kind = .digest ∧ o = .none ∧ s.station = .member ∧ (s.bus.tx = .idle ∨ ∃ p, s.bus.tx = .done .claim p))) →
     Completes (.windowSettle line) s (fun t =>
       (kind = .claim → t.bus =
         { s.bus with claimRecords := s.bus.claimRecords.set s.me (.own o), window := none }) ∧
       (kind = .digest → t.bus =
         { s.bus with digestRecords := s.bus.digestRecords.set s.me (.own o), window := none }) ∧
       s.engineKept t ∧ s.onlyChanges t [.timer, .bus, .engine])) ∧
  (∀ (kind : WindowKind) (k : Nat) (line : DatLine) (s : State) (c : Settings), s.cfg = some c →
     s.bus.window = some (kind, k) → k < 16 →
     k ≠ s.me ∨ (s.station.announces = false ∧ s.bus.tx = .idle) ∨
       (kind = .digest ∧ s.station ≠ .member ∧ (s.bus.tx = .idle ∨ ∃ p, s.bus.tx = .done .claim p)) →
     s.bus.claimRecords.length = 16 →
     s.bus.digestRecords.length = 16 →
     let bd := c.bitTu * c.divider
     let settle := (match kind with | .claim => 159 | .digest => 79) * bd
     let record : State → WindowRecord := fun t => match kind with
       | .claim => t.bus.claimRecords.getD k .empty
       | .digest => t.bus.digestRecords.getD k .empty
     let damaged : Prop := Completes (.windowSettle line) s (fun t =>
       record t = .damaged ∧ t.counters = s.counters.add .damaged 1 ∧
       s.onlyChanges t [.timer, .bus, .engine, .counters])
     ((∀ falseStarts e, ¬ searchAccepts line bd 0 falseStarts e) →
       Completes (.windowSettle line) s (fun t =>
         record t = .silent ∧ t.counters = s.counters ∧ s.onlyChanges t [.timer, .bus, .engine])) ∧
     (∀ (before : List Nat) (e : Nat), startEdges line bd settle (before ++ [e]) →
       let bytes := (before ++ [e]).map (sampledByte line bd)
       let stop := e + 9 * bd + bd / 2
       (∀ n, messageIs kind bytes n → bytes.length ≤ n) →
       (lowAt line (e + bd / 2) = false → damaged) ∧
       (lowAt line stop = true → damaged) ∧
       (settle ≤ stop → damaged) ∧
       ((∀ n, messageIs kind bytes n → bytes.length < n) → firstFall line stop (e + 11 * bd) = none → damaged) ∧
       (kind = .claim → 4 ≤ bytes.length → 5 ≤ (byteAt bytes 3).toNat % 8 → damaged) ∧
       (messageIs kind bytes bytes.length → firstFall line stop settle ≠ none → damaged) ∧
       (messageIs kind bytes bytes.length →
         (byteAt bytes 0 ≠ (match kind with | .claim => 0x5A | .digest => 0x3C) ∨
           (byteAt bytes 1).toNat / 16 ≠ k ∨ checkPasses bytes = false ∨
           (kind = .claim ∧ ((byteAt bytes 3).getLsbD 7 = true ∧ (byteAt bytes 3).getLsbD 6 = true ∨
             ((byteAt bytes 3).getLsbD 7 = true ∨ (byteAt bytes 3).getLsbD 6 = true) ∧
               (byteAt bytes 3).toNat % 8 ≠ 0))) → damaged))) ∧
  (∀ (a : Announcement) (line : DatLine) (s : State) (c : Settings), s.cfg = some c → s.bus.window = some (.claim, s.me) →
     a.station = s.me → s.station.announces = false → s.bus.tx = .idle → a.inRange = true → a.flagsLegal →
     2 ≤ c.bitTu * c.divider → s.bus.claimRecords.length = 16 →
     let bd := c.bitTu * c.divider
     line = lineOfBytes bd a.encode ∨ carries line bd (159 * bd) a.encode →
     Completes (.windowSettle line) s (fun t =>
       (a.fingerprint = c.fingerprint → t.counters = s.counters ∧ t.bus.claimRecords.getD s.me .empty =
         .intact (if a.frame = s.timer.frame then .inStep else .outOfStep) (.announcement a)) ∧
       (a.fingerprint ≠ c.fingerprint → t.counters = s.counters.add .foreign 1 ∧
         t.bus.claimRecords.getD s.me .empty = .foreign) ∧
       s.onlyChanges t [.timer, .bus, .engine, .counters])) ∧
  (∀ (d : DigestMessage) (line : DatLine) (s : State) (c : Settings), s.cfg = some c → s.bus.window = some (.digest, s.me) →
     d.station = s.me → s.station ≠ .member → (s.bus.tx = .idle ∨ ∃ p, s.bus.tx = .done .claim p) →
     2 ≤ c.bitTu * c.divider → s.bus.digestRecords.length = 16 →
     let own : FrameStep := if d.frame = s.timer.frame then .inStep else .outOfStep
     let bd := c.bitTu * c.divider
     line = lineOfBytes bd d.encode ∨ carries line bd (79 * bd) d.encode →
     Completes (.windowSettle line) s (fun t =>
       t.bus.digestRecords.getD s.me .empty = .intact own (.digest d) ∧ t.bus.claimRecords = s.bus.claimRecords ∧
       t.agree.store = s.agree.store ∧
       (own = .outOfStep ∧ (s.station = .joining ∨ s.station = .leaving) →
         t.counters = s.counters.add .mismatches 1) ∧
       (own = .inStep ∨ (s.station ≠ .joining ∧ s.station ≠ .leaving) → t.counters = s.counters) ∧
       s.onlyChanges t [.timer, .bus, .engine, .counters]))

/-- A peer's announcement sent whole (sections 2.4, 2.5, 2.6, 3.2): the waveform of its bytes, and every line that carries them,
also one with false starts before the first start edge (R29) and with other gaps between the bytes (R30), settles to INTACT with
its fields and the heard flag, or, under another fingerprint, to FOREIGN; the counters are those of R33 and R34. A whole byte on a
line reads its samples as log entries 8, 9 and 35 say. -/
def Obligations.PeerAnnouncementIsReceived : Prop :=
  ∀ (a : Announcement) (line : DatLine) (s : State) (c : Settings), s.cfg = some c → s.bus.window = some (.claim, a.station) →
    a.station ≠ s.me → a.inRange = true → a.flagsLegal → 2 ≤ c.bitTu * c.divider →
    s.bus.claimRecords.length = 16 → s.membership.peers.length = 16 →
    let own : FrameStep := if a.frame = s.timer.frame then .inStep else .outOfStep
    let bd := c.bitTu * c.divider
    line = lineOfBytes bd a.encode ∨ carries line bd (159 * bd) a.encode →
    Completes (.windowSettle line) s (fun t =>
      (a.fingerprint = c.fingerprint →
        t.bus.claimRecords.getD a.station .empty = .intact own (.announcement a) ∧
        (t.counters.mismatches = if own = .outOfStep ∧
            (s.station = .joining ∨ s.station = .member ∨ s.station = .leaving)
          then saturatingAdd s.counters.mismatches 1 else s.counters.mismatches) ∧
        t.counters.foreign = s.counters.foreign ∧
        (s.station = .listening ∨ s.station = .joining ∨ s.station = .member ∨ s.station = .leaving →
          t.peer a.station = { s.peer a.station with heard := true } ∧
          ∀ k, k ≠ a.station → t.peer k = s.peer k) ∧
        (s.station = .offline ∨ s.station = .isolated → t.membership = s.membership)) ∧
      (a.fingerprint ≠ c.fingerprint →
        t.bus.claimRecords.getD a.station .empty = .foreign ∧ t.membership = s.membership ∧
        t.counters = s.counters.add .foreign 1) ∧
      t.counters.damaged = s.counters.damaged ∧ t.bus.window = none ∧ t.bus.digestRecords = s.bus.digestRecords ∧
      (∀ k, k ≠ a.station → t.bus.claimRecords.getD k .empty = s.bus.claimRecords.getD k .empty) ∧
      s.onlyChanges t [.timer, .bus, .membership, .engine, .counters])

/-- A peer's digest message sent whole (sections 2.4, 2.5, 2.6, 5.3), as the waveform of its bytes or on any line that carries
them, also one with false starts before the first start edge (R29; samples as log entries 8, 9 and 35 say): INTACT, and its digest
and step stand in the received digest store, in every station state. -/
def Obligations.PeerDigestIsStored : Prop :=
  ∀ (d : DigestMessage) (line : DatLine) (s : State) (c : Settings), s.cfg = some c → s.bus.window = some (.digest, d.station) →
    d.station < 16 → d.station ≠ s.me → 2 ≤ c.bitTu * c.divider → s.bus.digestRecords.length = 16 →
    s.agree.store.length = 16 →
    let own : FrameStep := if d.frame = s.timer.frame then .inStep else .outOfStep
    let bd := c.bitTu * c.divider
    line = lineOfBytes bd d.encode ∨ carries line bd (79 * bd) d.encode →
    Completes (.windowSettle line) s (fun t =>
      t.bus.digestRecords.getD d.station .empty = .intact own (.digest d) ∧
      t.agree.store.getD d.station none = some { digest := d.digest, step := own } ∧
      (∀ k, k ≠ d.station → t.agree.store.getD k none = s.agree.store.getD k none) ∧
      t.agree = { s.agree with store := t.agree.store } ∧ t.bus.claimRecords = s.bus.claimRecords ∧
      (t.counters.mismatches = if own = .outOfStep ∧
          (s.station = .joining ∨ s.station = .member ∨ s.station = .leaving)
        then saturatingAdd s.counters.mismatches 1 else s.counters.mismatches) ∧
      t.counters.damaged = s.counters.damaged ∧ s.onlyChanges t [.timer, .bus, .agree, .engine, .counters])

/-- The receiver reads what the transmitter sends (sections 2.1, 2.3, 2.4). While the transmitter is SENDING it pulls DAT exactly
in the 0 bits of its message, bit j of which lies 2 + j bit times after the window's start (R21, R22, R25); in the lead-in, after
the last bit, and when it is not SENDING, DAT is released. So in each REFCLK period the line of a message sent alone is
`lineOfBytes`; and that waveform, with bits of two REFCLK periods or more, is received as exactly the message's bytes. -/
def Obligations.ReceiverReadsTransmitter : Prop :=
  (∀ (kind : WindowKind) (bytes : List Byte) (s : State) (c : Settings), s.cfg = some c → s.bus.tx = .sending kind bytes →
    1 ≤ c.bitTu →
    let start := 24 + (match kind with
      | .claim => 160 * c.bitTu * s.me
      | .digest => 160 * c.windows * c.bitTu + c.gap + 80 * c.bitTu * s.me)
    (∀ n, start + n * c.bitTu ≤ s.timer.value → s.timer.value < start + (n + 1) * c.bitTu →
      (n < 2 → s.datPulled = false) ∧
      (∀ j, n = 2 + j → (s.datPulled = true ↔ (messageBits bytes)[j]? = some false))) ∧
    (start ≤ s.timer.value → s.timer.prescaler < c.divider →
      s.datPulled = lowAt (lineOfBytes (c.bitTu * c.divider) bytes)
        (c.divider * (s.timer.value - start) + s.timer.prescaler))) ∧
  (∀ s : State, (∀ kind bytes, s.bus.tx ≠ .sending kind bytes) → s.datPulled = false) ∧
  (∀ bytes : List Byte, (messageBits bytes).length = 10 * bytes.length ∧
    ∀ m b, bytes[m]? = some b → (messageBits bytes)[10 * m]? = some false ∧
      (∀ i, i < 8 → (messageBits bytes)[10 * m + 1 + i]? = some (b.getLsbD i)) ∧
      (messageBits bytes)[10 * m + 9]? = some true) ∧
  (∀ (kind : WindowKind) (bd : Nat) (bytes : List Byte), 2 ≤ bd →
    (kind = .digest → bytes.length = 7) →
    (kind = .claim → bytes.length = 10 + (byteAt bytes 3).toNat % 8 ∧ bytes.length ≤ 14) →
    receive kind bd (lineOfBytes bd bytes) = .bytes bytes)

/-- The layouts of section 2.6 lose nothing: every announcement and every digest message whose fields are in range decodes from
its bytes to itself, with its check passing, its kind byte and its length; so do the claim bytes with bit 0 clear. -/
def Obligations.MessagesRoundTrip : Prop :=
  (∀ a : Announcement, a.inRange = true →
    Announcement.decode a.encode = a ∧ checkPasses a.encode = true ∧ a.encode.length = 10 + a.claims.length ∧
    byteAt a.encode 0 = 0x5A) ∧
  (∀ d : DigestMessage, d.station < 16 →
    DigestMessage.decode d.encode = d ∧ checkPasses d.encode = true ∧ d.encode.length = 7 ∧
    byteAt d.encode 0 = 0x3C) ∧
  (∀ b : Byte, b.getLsbD 0 = false → (Claim.decode b).inRange = true ∧ (Claim.decode b).encode = b)

/-! ### Claim phase close (chapters 3 and 4) -/

/-- The peer update of section 3.2 (R45): with the records offered in ascending station order before any other, and the table's
next state and group for every peer, whenever the same reaction does not clear the peer table. -/
def Obligations.PeerUpdate : Prop :=
  ∀ (s : State) (c : Settings), s.awaits c c.placeClaimClose →
    (s.station = .listening ∨ s.station = .joining ∨ s.station = .member ∨ s.station = .leaving) →
    let heard : Nat → Prop := fun k => s.heardFrom k ≠ none
    let leaving : Nat → Prop := fun k => ∃ step a, s.heardFrom k = some (step, a) ∧ a.leaving = true
    Completes .claimPhaseClose s (fun t =>
      (∃ records rs : List EventRecord,
        t.events = rs.foldl EventQueue.offer (records.foldl EventQueue.offer s.events) ∧
        (records.filterMap (·.peer)).Pairwise (fun i j => i < j) ∧
        ∀ r, r ∈ records ↔ ∃ k, k < 16 ∧ k ≠ s.me ∧
          ((r = { kind := .peerJoined, frame := s.timer.frame, peer := some k } ∧
              (s.peer k).state = .joining2 ∧ heard k ∧ ¬ leaving k) ∨
            (r = { kind := .peerLeft, frame := s.timer.frame, peer := some k } ∧ leaving k ∧
              ((s.peer k).state = .member ∨ (s.peer k).state = .missing1 ∨ (s.peer k).state = .missing2)) ∨
            (r = { kind := .peerLost, frame := s.timer.frame, peer := some k } ∧
              (s.peer k).state = .missing2 ∧ ¬ heard k))) ∧
      (t.station.clearsPeers = false → (s.station = .joining → t.station ≠ .listening) →
        ∀ k, k < 16 → k ≠ s.me →
          ((t.peer k).state = match (s.peer k).state, s.heardFrom k with
            | .absent, some (_, a) => if a.leaving then .absent else .joining1
            | .absent, none => .absent
            | .joining1, some (_, a) => if a.leaving then .absent else .joining2
            | .joining1, none => .absent
            | .joining2, some (_, a) => if a.leaving then .absent else .member
            | .joining2, none => .absent
            | .member, some (_, a) => if a.leaving then .absent else .member
            | .member, none => .missing1
            | .missing1, some (_, a) => if a.leaving then .absent else .member
            | .missing1, none => .missing2
            | .missing2, some (_, a) => if a.leaving then .absent else .member
            | .missing2, none => .absent) ∧
          ((t.peer k).group = match s.heardFrom k with
            | some (_, a) => a.group
            | none => (s.peer k).group)))

/-- The reference frame number at claim phase close (sections 3.3 to 3.5, 5.3). In JOINING, MEMBER and LEAVING it is adopted when
it differs, with SEQ_ADOPTED and the adoption notice, whatever the close goes on to do; otherwise the number stands and the notice
is clear; only a join timeout then sets the number to 0. A MEMBER or LEAVING station whose announcement has not collided a second
time in a row stays what it is. LISTENING keeps the reference as its listening reference while OBSERVING, and keeps its own
number, while its foreign-only count does not come to 4 in this frame. -/
def Obligations.ReferenceFrameNumber : Prop :=
  (∀ (s : State) (c : Settings), s.awaits c c.placeClaimClose →
     (s.station = .joining ∨ s.station = .member ∨ s.station = .leaving) →
     let stays : State → Prop := fun t =>
       (s.station ≠ .joining → s.ownClaimOutcome ≠ .collided ∨ s.membership.streak = 0 → t.station = s.station) ∧
       t.alloc.frame = t.timer.frame ∧ (t.station = .listening → s.station = .joining ∧ t.timer.frame = 0)
     (∀ k f, s.referenceIs k f → f ≠ s.timer.frame → Completes .claimPhaseClose s (fun t =>
       stays t ∧ (t.station ≠ .listening → t.timer.frame = f) ∧ t.agree.adoption = some k ∧
       (s.station ≠ .member ∨ t.station = .member → t.agree = { s.agree with adoption := some k }) ∧
       ∃ rs rs' : List EventRecord, t.events = rs'.foldl EventQueue.offer
         ((rs.foldl EventQueue.offer s.events).offer { kind := .seqAdopted, frame := f, peer := some k }))) ∧
     ((∀ k f, s.referenceIs k f → f = s.timer.frame) → Completes .claimPhaseClose s (fun t =>
       stays t ∧ (t.station ≠ .listening → t.timer.frame = s.timer.frame) ∧ t.agree.adoption = none ∧
       (s.station ≠ .member ∨ t.station = .member → t.agree = { s.agree with adoption := none }) ∧
       ∃ rs : List EventRecord, t.events = rs.foldl EventQueue.offer s.events ∧ ∀ r ∈ rs, r.kind ≠ .seqAdopted))) ∧
  (∀ (s : State) (c : Settings), s.awaits c c.placeClaimClose → s.station = .listening →
     s.foreignBelowLimit →
     Completes .claimPhaseClose s (fun t =>
       t.station = .listening ∧ t.timer.frame = s.timer.frame ∧
       (s.membership.observation = .observing →
         (∀ k f, s.referenceIs k f → t.membership.listenRef = some f) ∧
         ((∀ k f, ¬ s.referenceIs k f) → t.membership.listenRef = none)) ∧
       (s.membership.observation = .unaligned → t.membership.listenRef = s.membership.listenRef) ∧
       t.alloc.status = .complete ∧ t.alloc.table = List.replicate c.slots (List.replicate c.channels none)))

/-- Isolation (section 3.8): a second own collision in a row isolates with DUPLICATE; a fourth foreign-only frame in LISTENING or
JOINING isolates with CONFIG. ISOLATED is recorded with its reason, 0 or 1, under the frame number then in force; FAULT is
asserted, the peer table is clear, and the table is COMPLETE and empty. Below the limits the counts go on, in every state that
keeps them: a first collision makes the streak 1 and any other outcome 0; a foreign-only frame makes that count one more and any
other frame 0. A JOINING station that is admitted or times out at the same close leaves with what the entry to its new state sets:
in MEMBER the foreign-only count is 0, in LISTENING the streak (R41). -/
def Obligations.Isolation : Prop :=
  ∀ (s : State) (c : Settings), s.awaits c c.placeClaimClose →
    let isolated : IsolationReason → State → Prop := fun why t =>
      t.station = .isolated ∧ t.faultPin = true ∧ t.link = false ∧ t.membership.isolation = some why ∧
      (∀ k, t.peer k = PeerEntry.cleared) ∧ t.membership.heardMap = 0 ∧ t.membership.streak = 0 ∧
      t.membership.foreignOnly = 0 ∧ t.membership.leavePending = false ∧ t.alloc.status = .complete ∧
      t.alloc.table = List.replicate c.slots (List.replicate c.channels none) ∧ t.alloc.claimList = [] ∧
      ∃ rs rs' : List EventRecord, t.events = rs'.foldl EventQueue.offer
        ((rs.foldl EventQueue.offer s.events).offer
          { kind := .isolated, frame := t.timer.frame,
            channel := some (match why with | .duplicate => 0 | .config => 1) })
    let foreignOnly : Prop := s.onlyForeign
    (s.station = .joining ∨ s.station = .member ∨ s.station = .leaving → s.ownClaimOutcome = .collided →
      s.membership.streak = 1 → Completes .claimPhaseClose s (fun t =>
        isolated .duplicate t ∧
        (s.station = .member → t.demand.entries = [] ∧ t.agree.verdict = .none ∧ t.agree.ownDigest = none))) ∧
    (s.station = .listening ∨ (s.station = .joining ∧ (s.ownClaimOutcome ≠ .collided ∨ s.membership.streak = 0)) →
      s.membership.foreignOnly = 3 → foreignOnly → Completes .claimPhaseClose s (isolated .config)) ∧
    (s.station = .member ∨ s.station = .leaving →
      (s.ownClaimOutcome = .collided → s.membership.streak = 0 → Completes .claimPhaseClose s (fun t =>
        t.station = s.station ∧ t.membership.streak = 1)) ∧
      (s.ownClaimOutcome ≠ .collided → Completes .claimPhaseClose s (fun t =>
        t.station = s.station ∧ t.membership.streak = 0))) ∧
    (s.station = .joining → s.ownClaimOutcome = .collided → s.membership.streak = 0 → s.membership.joiningFrames < 15 →
      s.membership.foreignOnly < 3 → Completes .claimPhaseClose s (fun t =>
        t.station = .joining ∧ t.membership.streak = 1 ∧ t.membership.joiningSent = 0 ∧
        (foreignOnly → t.membership.foreignOnly = s.membership.foreignOnly + 1) ∧
        (¬ foreignOnly → t.membership.foreignOnly = 0))) ∧
    (s.station = .joining → (s.ownClaimOutcome = .collided → s.membership.streak = 0) →
      s.foreignBelowLimit → Completes .claimPhaseClose s (fun t =>
        (t.station = .joining ∨ t.station = .member ∨ t.station = .listening) ∧
        (s.ownClaimOutcome = .collided → t.station ≠ .member) ∧
        t.membership.streak = (if s.ownClaimOutcome = .collided ∧ t.station = .joining then 1 else 0) ∧
        (t.station = .member → t.membership.foreignOnly = 0) ∧
        (t.station ≠ .member →
          (foreignOnly → t.membership.foreignOnly = s.membership.foreignOnly + 1) ∧
          (¬ foreignOnly → t.membership.foreignOnly = 0)))) ∧
    (s.station = .listening → s.membership.foreignOnly < 3 → Completes .claimPhaseClose s (fun t =>
      t.station = .listening ∧ (foreignOnly → t.membership.foreignOnly = s.membership.foreignOnly + 1) ∧
      (¬ foreignOnly → t.membership.foreignOnly = 0))) ∧
    (s.station = .listening → s.membership.foreignOnly = 3 → ¬ foreignOnly → Completes .claimPhaseClose s (fun t =>
      t.station = .listening ∧ t.membership.foreignOnly = 0))

/-- JOINING at claim phase close (section 3.6). The joining-sent count goes up with SENT, to 3 at most, back to 0 with COLLIDED,
and stands otherwise. With the count at 3, and its own bit in the heard map of every peer that is MEMBER after the peer update,
the station is MEMBER with ADMITTED, and the Allocator builds. At every other close the joining-frame count goes up, and at the
sixteenth the station is LISTENING again, with JOIN_TIMEOUT under the frame number after any adoption, frame number 0 and its peer
table clear. -/
def Obligations.JoiningEnds : Prop :=
  ∀ (s : State) (c : Settings), s.awaits c c.placeClaimClose → s.station = .joining →
    s.foreignBelowLimit → (s.ownClaimOutcome = .collided → s.membership.streak = 0) →
    let sent : Nat := match s.ownClaimOutcome with
      | .sent => min (s.membership.joiningSent + 1) 3
      | .collided => 0
      | .none => s.membership.joiningSent
    let heardByMembers : Prop := ∀ k step a, k < 16 → k ≠ s.me → s.heardFrom k = some (step, a) → a.leaving = false →
      ((s.peer k).state = .joining2 ∨ (s.peer k).state = .member ∨ (s.peer k).state = .missing1 ∨
        (s.peer k).state = .missing2) → a.heardMap.getLsbD s.me = true
    let adopted : Byte → Prop := fun f =>
      (∀ k g, s.referenceIs k g → f = g) ∧ ((∀ k g, ¬ s.referenceIs k g) → f = s.timer.frame)
    (sent = 3 → heardByMembers → Completes .claimPhaseClose s (fun t =>
      t.station = .member ∧ t.link = true ∧ t.membership.foreignOnly = 0 ∧ t.membership.joiningSent = 0 ∧
      t.membership.joiningFrames = 0 ∧ t.alloc.status = .building ∧ s.me ∈ t.alloc.view ∧
      (∃ rs : List EventRecord, t.events =
        (rs.foldl EventQueue.offer s.events).offer { kind := .admitted, frame := t.timer.frame }) ∧
      adopted t.timer.frame ∧ t.demand = s.demand)) ∧
    (sent ≠ 3 ∨ ¬ heardByMembers → s.membership.joiningFrames = 15 → Completes .claimPhaseClose s (fun t =>
      t.station = .listening ∧ t.timer.frame = 0 ∧ t.timer.silence = 0 ∧
      t.membership.observation = .unaligned ∧ t.membership.joiningSent = 0 ∧ t.membership.joiningFrames = 0 ∧
      (∀ k, t.peer k = PeerEntry.cleared) ∧
      (∃ (f : Byte) (rs : List EventRecord), adopted f ∧ t.events =
        (rs.foldl EventQueue.offer s.events).offer { kind := .joinTimeout, frame := f }) ∧
      t.alloc.status = .complete)) ∧
    (sent ≠ 3 ∨ ¬ heardByMembers → s.membership.joiningFrames < 15 → Completes .claimPhaseClose s (fun t =>
      t.station = .joining ∧ t.membership.joiningSent = sent ∧
      t.membership.joiningFrames = s.membership.joiningFrames + 1 ∧ t.alloc.status = .complete))

/-- In OFFLINE and ISOLATED the Membership Unit takes no step at claim phase close, and the Allocator completes with an empty
table (sections 3.3, 4.2). -/
def Obligations.CloseOutsideTheRig : Prop :=
  ∀ (s : State) (c : Settings), s.awaits c c.placeClaimClose → (s.station = .offline ∨ s.station = .isolated) →
    s.timer.value ≤ 24 + 160 * c.windows * c.bitTu →
    Completes .claimPhaseClose s (fun t =>
      t.timer.value = 24 + 160 * c.windows * c.bitTu ∧ t.timer.frame = s.timer.frame ∧
      t.agree = { s.agree with adoption := none } ∧ t.alloc.status = .complete ∧ t.alloc.claimList = [] ∧
      t.alloc.table = List.replicate c.slots (List.replicate c.channels none) ∧ s.engineKept t ∧
      s.onlyChanges t [.timer, .alloc, .agree, .engine])

/-- The claim list that a station which is MEMBER after the close forms, and the rotation rank of each entry (sections 4.3, 4.4).
It holds exactly one entry for each admitted claim: those of a peer whose window was INTACT and IN_STEP and whose entry is MEMBER
after the update, under the group it announced (R71, R72); and, where the own window is SENT, those of the own claim record, under
the own group (R73). Each has the fields of its claim, its place among its station's claims, and its station's rank under the
frame number handed over (R74, R76). The list stands in the order of R75; from claims in range it is one that R74 allows, of 64
entries at most. A MEMBER stays MEMBER unless its announcement collides for the second time in a row. In every other state the
table is COMPLETE and empty at once (R70). The member view handed over holds, in ascending order, exactly the stations of R46. -/
def Obligations.RotationRank : Prop :=
  ∀ (s : State) (c : Settings), s.awaits c c.placeClaimClose →
    Completes .claimPhaseClose s (fun t =>
      (s.station = .member → s.ownClaimOutcome ≠ .collided ∨ s.membership.streak = 0 → t.station = .member) ∧
      t.alloc.frame = t.timer.frame ∧
      t.alloc.view.Pairwise (fun i j => i < j) ∧ (∀ k, k ∈ t.alloc.view ↔ t.inView k) ∧
      (t.station ≠ .member → t.alloc.status = .complete ∧ t.alloc.claimList = [] ∧
        t.alloc.table = List.replicate c.slots (List.replicate c.channels none)) ∧
      (t.station = .member → t.alloc.status = .building ∧
        (∀ e, e ∈ t.alloc.claimList ↔ ∃ x : Claim,
          e.cls = x.cls ∧ e.priority = x.priority ∧ e.span = x.span ∧ e.count = x.count ∧ e.granted = 0 ∧ e.unmet = 0 ∧
          (e.rank : Int) = ((e.station : Int) - ((t.timer.frame.toNat % 16 : Nat) : Int)) % 16 ∧
          ((e.station = s.me ∧ s.ownClaimOutcome = .sent ∧ s.demand.claimRecord[e.position]? = some x ∧ e.group = c.group) ∨
            (e.station ≠ s.me ∧ e.station < 16 ∧ (t.peer e.station).state = .member ∧
              ∃ a, s.heardFrom e.station = some (.inStep, a) ∧ a.claims[e.position]? = some x ∧ e.group = a.group))) ∧
        t.alloc.claimList.Pairwise (fun a b => b.priority < a.priority ∨ (a.priority = b.priority ∧
          (a.rank < b.rank ∨ (a.rank = b.rank ∧
            (a.cls < b.cls ∨ (a.cls = b.cls ∧ a.position < b.position)))))) ∧
        (s.ClaimsInRange → claimListFormed t.alloc.claimList ∧
          (s.demand.claimRecord.length ≤ 4 → t.alloc.claimList.length ≤ 64))))

/-! ### Allocation (chapter 4) -/

/-- The law of section 4.1 (R67): whatever claim list is placed, no slot of the table holds two cells of one exclusion group, and
every part-1 cell follows the part-0 cell of its exposure. -/
def Obligations.AllocationKeepsTheLaw : Prop :=
  ∀ (slots channels : Nat) (list : List ClaimEntry), claimListFormed list →
    (allocate slots channels list).1.lawful list

/-- Section 4.5 (R77 to R79): each attempt takes the first position, slots in ascending order and channels in ascending order
within each, at which the exposure fits, its cells are empty and none of its slots holds a cell of the entry's group; it fails,
and its entry with it, only when there is none; the entries are placed one after another. So every entry's granted plus unmet is
its count, and its other fields stand. -/
def Obligations.GrantedPlusUnmetIsCount : Prop :=
  ∀ (slots channels : Nat) (list : List ClaimEntry), claimListFormed list →
    Placed list slots channels (List.replicate slots (List.replicate channels none)) list
      (allocate slots channels list).1 (allocate slots channels list).2 ∧
    (allocate slots channels list).2.length = list.length ∧
    ∀ (i : Nat) (e e' : ClaimEntry), list[i]? = some e → (allocate slots channels list).2[i]? = some e' →
      e'.granted + e'.unmet = e.count ∧ { e' with granted := 0, unmet := 0 } = e ∧
      (1 ≤ channels → e.span ≤ slots → list = [e] → e.count = 1 → e'.granted = 1)

/-- The order of section 4.4 (R75) depends only on the entries: two claim lists with the same entries, no two of which agree on
all four keys, are placed in one and the same order, highest priority first. -/
def Obligations.PlacementOrderIsTotal : Prop :=
  ∀ l l' : List ClaimEntry, l.Perm l' → l.Pairwise ClaimEntry.differs →
    orderEntries l = orderEntries l' ∧ (orderEntries l).Perm l ∧
    (orderEntries l).Pairwise (fun a b => b.priority < a.priority ∨ (a.priority = b.priority ∧
      (a.rank < b.rank ∨ (a.rank = b.rank ∧
        (a.cls < b.cls ∨ (a.cls = b.cls ∧ a.position < b.position))))))

/-- Allocation complete at a MEMBER (sections 4.5, 4.6, 5.2): the COMPLETE table is the placement of the claim list, the unmet sum
of the own entries is counted, and the own digest is the CRC-16 of the member bitmap, the frame number and the cells. -/
def Obligations.AllocationCompletes : Prop :=
  ∀ (s : State) (c : Settings), s.cfg = some c → s.timer.mode = .running → s.alloc.status = .building →
    s.station = .member →
    let placed := allocate c.slots c.channels s.alloc.claimList
    Completes .allocationComplete s (fun t =>
      t.alloc.status = .complete ∧ t.alloc.table = placed.1 ∧
      t.counters = s.counters.add .unmetGrants
        ((placed.2.filter (fun e => e.station == s.me)).map (·.unmet)).sum ∧
      t.agree = { s.agree with ownDigest := some (crc16
        ([hiByte (bitmapOf s.alloc.view), loByte (bitmapOf s.alloc.view), s.alloc.frame] ++
          t.alloc.table.flatMap (fun slot => slot.map (fun x => match x with
            | none => 0xFF
            | some y => BitVec.ofNat 8 (y.station * 8 + y.cls * 2 + y.part))))) } ∧
      s.onlyChanges t [.alloc, .agree, .counters, .draws])

/-! ### The vote (chapter 5) and binding (chapter 6) -/

/-- The vote at digest phase close (sections 5.4, 5.6). A MEMBER's verdict is EXPOSE exactly when twice the agreeing stations,
itself among them, exceed the view and nothing was adopted; HOLDOFF is counted and recorded with A, V and the reference sender;
the published record is replaced. In every other state nothing is voted on. -/
def Obligations.Vote : Prop :=
  (∀ (s : State) (c : Settings) (d : Half), s.awaits c c.placeDigestClose → s.station = .member →
     s.agree.ownDigest = some d →
     let agreeing : Nat := 1 + ((s.alloc.view.filter (fun k => k != s.me)).filter (fun k =>
       s.agree.store.getD k none == some { digest := d, step := .inStep })).length
     let size : Nat := s.alloc.view.length
     let wins : Prop := size < 2 * agreeing ∧ s.agree.adoption = none
     let published : Verdict → PublishedTable := fun v =>
       { frame := some s.timer.frame, verdict := v, bitmap := some (bitmapOf s.alloc.view), digest := some d,
         cells := some s.alloc.table }
     (wins → Completes .digestPhaseClose s (fun t =>
       t.agree = { s.agree with verdict := .expose, published := published .expose } ∧
       s.engineKept t ∧ s.onlyChanges t [.timer, .agree, .demand, .engine])) ∧
     (¬ wins → Completes .digestPhaseClose s (fun t =>
       t.agree = { s.agree with verdict := .holdoff, published := published .holdoff } ∧
       t.counters = s.counters.add .holdoffs 1 ∧
       t.events = s.events.offer { kind := .holdoff, frame := s.timer.frame, peer := s.agree.adoption,
                                   slot := some agreeing, channel := some size } ∧
       s.engineKept t ∧ s.onlyChanges t [.timer, .agree, .engine, .events, .counters]))) ∧
  (∀ (s : State) (c : Settings), s.awaits c c.placeDigestClose → s.station ≠ .member →
     s.timer.value ≤ 24 + 240 * c.windows * c.bitTu + c.gap →
     Completes .digestPhaseClose s (fun t =>
       t.timer.value = 24 + 240 * c.windows * c.bitTu + c.gap ∧ s.engineKept t ∧ s.onlyChanges t [.timer, .engine]))

/-- Binding on EXPOSE (section 6.5, R107): one exposure list item for each own part-0 cell of the COMPLETE table, in slot order.
The cells of a triggered class take the oldest PENDING entries of that class, first to last: the item carries the entry's request,
and the entry is BOUND to the item's slot and channel; every other entry stays as it was. A periodic class's items have no
request. Where a class has more own cells than PENDING entries, which its claim rules out, the further items have none either (log
entry 24). -/
def Obligations.BindingTakesTheOldest : Prop :=
  ∀ (s : State) (c : Settings) (d : Half) (own : List (Nat × Nat × Nat)), s.awaits c c.placeDigestClose →
    s.station = .member → s.agree.ownDigest = some d → s.voteVerdict d = .expose → s.demand.exposures = [] →
    own.Pairwise (fun p q => p.1 < q.1) →
    (∀ k ch i, (k, ch, i) ∈ own ↔ k < c.slots ∧ ∃ x, s.ownCellIs k ch x ∧ x.cls = i ∧ x.part = 0) →
    let waits : Nat → DemandEntry → Bool := fun i e => e.cls == i && e.bound == none
    Completes .digestPhaseClose s (fun t =>
      t.demand.exposures.map (fun it => (it.slot, it.channel, it.cls)) = own ∧
      (∀ it ∈ t.demand.exposures, it.span = c.classSpan it.cls ∧ it.running = false) ∧
      (∀ i, (c.classOf i).triggered = true →
        let cells := own.filter (fun p => p.2.2 == i)
        let waiting := s.demand.entries.filter (waits i)
        (t.demand.exposures.filter (fun it => it.cls == i)).map (·.request) =
          (waiting.map (fun e : DemandEntry => some e.request) ++ List.replicate cells.length none).take cells.length ∧
        ((s.demand.entries.zip t.demand.entries).filter (fun p => waits i p.1)).map (fun p : DemandEntry × DemandEntry => p.2.bound) =
          (cells.map (fun p : Nat × Nat × Nat => some (p.1, p.2.1)) ++ List.replicate waiting.length none).take waiting.length) ∧
      (∀ it ∈ t.demand.exposures, (c.classOf it.cls).triggered = false → it.request = none) ∧
      (∀ p ∈ s.demand.entries.zip t.demand.entries,
        p.1.bound ≠ none ∨ (c.classOf p.1.cls).triggered = false → p.2.bound = p.1.bound) ∧
      t.demand.entries.map (fun e => (e.request, e.cls, e.age)) =
        s.demand.entries.map (fun e => (e.request, e.cls, e.age)) ∧
      t.demand.nextRequest = s.demand.nextRequest ∧ t.demand.claimRecord = s.demand.claimRecord)

/-! ### Exposures (chapters 6 and 7) -/

/-- Slot k start (sections 6.6, 7.2, 7.4, 7.6). With the engine IDLE, verdict EXPOSE and an own part-0 cell in slot k of the
COMPLETE table, the exposure starts: its record, its edges of offset 0 and fine delay 0, its channel on CHSEL (bit 0 of it on
CHSEL0, bit 1 on CHSEL1), EXPOSING, and its item RUNNING; right after an exposure that ended at this very instant EXPOSING and
CHSEL still rest. In every other case (another mode or verdict, a table that is not COMPLETE, no own cell in the slot, one of part
1) the engine is left as it is. An enabled drive output shows its level XOR invert, a disabled one is high-impedance. -/
def Obligations.SlotStart : Prop :=
  ∀ (k : Nat) (s : State) (c : Settings), s.awaits c (c.placeSlotStart k) → k < c.slots →
    let instant := 40 + 240 * c.windows * c.bitTu + c.gap + c.slotLen * k
    let pins : State → Prop := fun t => ∀ i, i < 8 → t.drv i =
      if c.enableMask.getLsbD i then some (t.engine.levels.getLsbD i != c.invertMask.getLsbD i) else none
    s.timer.value ≤ instant →
    (∀ ch x, s.engine.mode = .idle → s.agree.verdict = .expose → s.ownCellIs k ch x → x.part = 0 →
      let p := (c.classOf x.cls).pattern
      let first := (c.patternEdges p).takeWhile (fun e => e.offset == 0 && e.fine == 0)
      Completes (.slotStart k) s (fun t =>
        t.engine.mode = .running { slot := k, channel := ch, cls := x.cls, pattern := p, span := (c.patternOf p).span,
                                   origin := instant, next := first.length, second := false } ∧
        t.engine.levels = first.foldl applyEdge s.engine.levels ∧ pins t ∧
        (s.timer.value < instant ∨ s.engine.justEnded = false → t.exposing = some true ∧ t.chsel = some ch ∧
          t.chselPins = some (decide (ch % 2 = 1), decide (ch / 2 % 2 = 1))) ∧
        (s.timer.value = instant → s.engine.justEnded = true → t.exposing = some false ∧ t.chsel = some 0 ∧
          t.chselPins = some (false, false)) ∧
        t.demand = { s.demand with
          exposures := s.demand.exposures.map (fun it => if it.slot = k then { it with running := true } else it) } ∧
        t.timer.value = instant ∧ t.timer.frame = s.timer.frame ∧ s.onlyChanges t [.timer, .demand, .engine])) ∧
    ((∃ r, s.engine.mode = .running r) ∨ s.agree.verdict ≠ .expose ∨ s.alloc.status ≠ .complete ∨
        (∀ ch x, s.alloc.table.cell k ch = some x → x.station ≠ s.me) ∨ (∃ ch x, s.ownCellIs k ch x ∧ x.part ≠ 0) →
      Completes (.slotStart k) s (fun t =>
        s.engineKept t ∧ (s.engine.mode ≠ .unloaded → pins t) ∧ t.timer.value = instant ∧ t.demand.entries = s.demand.entries ∧
        s.onlyChanges t [.timer, .demand, .engine]))

/-- Slot k end (sections 6.6, 7.2, 7.3, 7.6). The end of the span ends the exposure: outputs at rest (each enabled one at its idle
level XOR invert, a disabled one high-impedance), EXPOSING negated, CHSEL 0 with both pins negated, the item and the bound entry
retired with EXPOSED, and the exposures counter; the inner slot end of a span-2 exposure goes on into the second slot; with no
exposure nothing but time passes. -/
def Obligations.SlotEnd : Prop :=
  ∀ (k : Nat) (s : State) (c : Settings), s.awaits c (c.placeSlotEnd k) → k < c.slots →
    let instant := 40 + 240 * c.windows * c.bitTu + c.gap + c.slotLen * (k + 1)
    s.timer.value ≤ instant →
    (∀ r it, s.engine.mode = .running r → r.slot + r.span = k + 1 → s.demand.itemAt r.slot r.channel = some it →
      Completes (.slotEnd k) s (fun t =>
        t.engine.mode = .idle ∧ t.engine.levels = c.idleMask ∧ t.exposing = some false ∧ t.chsel = some 0 ∧
        t.chselPins = some (false, false) ∧
        (∀ i, i < 8 → t.drv i =
          if c.enableMask.getLsbD i then some (c.idleMask.getLsbD i != c.invertMask.getLsbD i) else none) ∧
        (t.demand.exposures =
          s.demand.exposures.filter (fun x => decide (¬ (x.slot = r.slot ∧ x.channel = r.channel)))) ∧
        (t.demand.entries = if it.request.isSome then
            s.demand.entries.filter (fun e => decide (e.bound ≠ some (r.slot, r.channel)))
          else s.demand.entries) ∧
        t.counters = s.counters.add .exposures 1 ∧
        t.events = s.events.offer { kind := .exposed, frame := s.timer.frame, cls := some it.cls,
                                    request := it.request, slot := some r.slot, channel := some r.channel } ∧
        t.timer.value = instant ∧ s.onlyChanges t [.timer, .demand, .engine, .events, .counters])) ∧
    (∀ r, s.engine.mode = .running r → r.slot = k → r.span = 2 →
      s.timer.value < instant ∨ s.engine.gap = false →
      Completes (.slotEnd k) s (fun t =>
        t.engine.mode = .running { r with second := true } ∧ t.engine.levels = s.engine.levels ∧
        t.exposing = some true ∧ t.chsel = some r.channel ∧
        t.chselPins = some (decide (r.channel % 2 = 1), decide (r.channel / 2 % 2 = 1)) ∧ t.timer.value = instant ∧
        s.onlyChanges t [.timer, .engine])) ∧
    (s.engine.mode = .idle → Completes (.slotEnd k) s (fun t =>
      s.engineKept t ∧ t.timer.value = instant ∧ s.onlyChanges t [.timer, .engine]))

/-- The time of the running pattern's next edges comes (section 7.5): the n edges that have this time, the one after them being
later, are applied in pool order. An output that one of them names takes the level of the last that does, an enabled pin shows it
XOR invert, every other output keeps its level, and the next edge moves on by n. The time is offset tu after the origin and the
whole REFCLK periods in fine tenths of a tu, the period in which the instant lies (log entry 18; the operands are log entry 16);
once a REFCLK period has passed, EXPOSING and CHSEL show the running exposure (section 7.6). A time that no remaining edge has
does nothing (log entry 16). -/
def Obligations.PatternEdge : Prop :=
  ∀ (r : RunningPattern) (s : State) (c : Settings), s.cfg = some c → s.engine.mode = .running r →
    (∀ offset fine n, 1 ≤ n →
      (∀ m, r.next ≤ m → m < r.next + n →
        ∃ e, (c.patternEdges r.pattern)[m]? = some e ∧ e.offset = offset ∧ e.fine = fine ∧ e.output < 8) →
      (∀ e, (c.patternEdges r.pattern)[r.next + n]? = some e →
        offset < e.offset ∨ (offset = e.offset ∧ fine < e.fine)) →
      Completes (.patternEdge offset fine) s (fun t =>
        t.engine.mode = .running { r with next := r.next + n } ∧
        (∀ m e, r.next ≤ m → m < r.next + n → (c.patternEdges r.pattern)[m]? = some e →
          (∀ m' e', m < m' → m' < r.next + n → (c.patternEdges r.pattern)[m']? = some e' → e'.output ≠ e.output) →
          t.engine.levels.getLsbD e.output = e.level ∧
          (c.enableMask.getLsbD e.output = true →
            t.drv e.output = some (e.level != c.invertMask.getLsbD e.output)) ∧
          (c.enableMask.getLsbD e.output = false → t.drv e.output = none)) ∧
        (∀ i, i < 8 → (∀ m e, r.next ≤ m → m < r.next + n → (c.patternEdges r.pattern)[m]? = some e → e.output ≠ i) →
          t.engine.levels.getLsbD i = s.engine.levels.getLsbD i) ∧
        (s.timer.mode = .running → r.origin + offset ≤ c.frameLength →
          s.timer.value < r.origin + offset ∨
            (s.timer.value = r.origin + offset ∧ s.timer.prescaler ≤ fine * c.divider / 10) →
          t.timer.value = r.origin + offset ∧ t.timer.prescaler = fine * c.divider / 10) ∧
        (s.timer.value < t.timer.value ∨ s.timer.prescaler < t.timer.prescaler ∨ s.engine.gap = false →
          t.exposing = some true ∧ t.chsel = some r.channel) ∧
        t.timer.frame = s.timer.frame ∧ s.onlyChanges t [.timer, .engine])) ∧
    (∀ offset fine, (∀ e ∈ (c.patternEdges r.pattern).drop r.next, ¬ (e.offset = offset ∧ e.fine = fine)) →
      Completes (.patternEdge offset fine) s (fun t => t = s))

/-- The table of section 6.3 for arrivals on TRGA and TRGB, with the filter of section 10.2: an arrival is a high level held for D
samples in a row after an accepted low one, a new level is accepted after D samples in a row, and a sample of the accepted level
ends a run of the other; the run goes on from one command to the next. Before load completion the inputs are not sampled. The
operands, and that the samples of one command follow those of the one before on that input, are the model's (log entry 21). -/
def Obligations.TriggerArrivals : Prop :=
  ∀ (input : TrgInput) (lows highs : Nat) (s : State),
    let f := s.demand.filterOf input
    let low : Settings → Prop := fun c => f.high = false ∨ (1 ≤ lows ∧ c.divider ≤ f.run + lows)
    let run : Settings → Nat := fun c =>
      if lows = 0 then f.run else if f.high = true ∧ f.run + lows < c.divider then f.run + lows else 0
    let arrives : Settings → Prop := fun c => low c ∧ 1 ≤ highs ∧ c.divider ≤ run c + highs
    let other : TrgInput := match input with | .trga => .trgb | .trgb => .trga
    let names : Settings → Nat → Prop := fun c i =>
      (c.classOf i).source = (match input with | .trga => Source.trga | .trgb => Source.trgb)
    let unchanged : State → Prop := fun t =>
      t.demand.entries = s.demand.entries ∧ t.demand.nextRequest = s.demand.nextRequest ∧
      t.demand.claimRecord = s.demand.claimRecord ∧ t.demand.exposures = s.demand.exposures
    (s.cfg = none → Completes (.triggerArrival input lows highs) s (fun t => t = s)) ∧
    (∀ c, s.cfg = some c → Completes (.triggerArrival input lows highs) s (fun t =>
      ((t.demand.filterOf input).high = true ↔ arrives c ∨ ¬ low c) ∧
      (highs = 0 → (t.demand.filterOf input).run = run c) ∧
      (1 ≤ highs → low c → ¬ arrives c → (t.demand.filterOf input).run = run c + highs) ∧
      (1 ≤ highs → arrives c ∨ ¬ low c → (t.demand.filterOf input).run = 0) ∧
      t.demand.filterOf other = s.demand.filterOf other)) ∧
    (s.station = .loading ∨ s.station = .loadFailed → Completes (.triggerArrival input lows highs) s (fun t =>
      unchanged t ∧ s.onlyChanges t [.demand])) ∧
    (∀ c, s.cfg = some c → ¬ arrives c ∨ (∀ i, i < 4 → ¬ names c i) →
      Completes (.triggerArrival input lows highs) s (fun t => unchanged t ∧ s.onlyChanges t [.demand])) ∧
    (∀ c cls, s.cfg = some c → arrives c → cls < 4 → names c cls → (∀ j, j < 4 → j ≠ cls → ¬ names c j) →
      (s.station = .member → s.demand.entries.length < 12 →
        Completes (.triggerArrival input lows highs) s (fun t =>
          t.demand.entries =
            s.demand.entries ++ [{ request := s.demand.nextRequest, cls := cls, age := 0, bound := none }] ∧
          t.demand.nextRequest = s.demand.nextRequest + 1 ∧ t.demand.filterOf input = { high := true, run := 0 } ∧
          t.demand.claimRecord = s.demand.claimRecord ∧ t.demand.exposures = s.demand.exposures ∧
          s.onlyChanges t [.demand])) ∧
      (s.station = .member → s.demand.entries.length = 12 →
        Completes (.triggerArrival input lows highs) s (fun t =>
          unchanged t ∧ t.counters = s.counters.add .overruns 1 ∧
          t.events = s.events.offer { kind := .overrun, frame := s.timer.frame, cls := some cls } ∧
          s.onlyChanges t [.demand, .events, .counters])) ∧
      (s.station = .listening ∨ s.station = .joining ∨ s.station = .leaving ∨ s.station = .offline ∨
          s.station = .isolated →
        Completes (.triggerArrival input lows highs) s (fun t =>
          unchanged t ∧ t.counters = s.counters.add .refusedTriggers 1 ∧
          s.onlyChanges t [.demand, .counters])))

/-! ### The local port (chapter 9) -/

/-- A falling edge of LSEL (section 9.1): a transaction begins in IDLE with the leading byte on LDO, command count and result of
the last command; while RST is asserted the port is ABANDONED. A line that is low already cannot fall: the command of such a fall
leaves the state unchanged (the model's choice, log entry 2). -/
def Obligations.TransactionStarts : Prop :=
  ∀ (s : State),
    (s.port.lselLow = false → s.rstLow = false → s.port.state = .idle → Completes .transactionStart s (fun t =>
      t.port = { s.port with state := .code, lselLow := true } ∧
      t.port.ldo = some (BitVec.ofNat 8 (s.port.commandCount.toNat * 16 + (match s.port.commandResult with
        | .none => 0
        | .accepted => 1
        | .refused => 2))) ∧ s.onlyChanges t [.port])) ∧
    (s.port.lselLow = false → s.rstLow = true → Completes .transactionStart s (fun t =>
      t.port = { s.port with state := .abandoned, lselLow := true } ∧ t.port.ldo = none ∧ s.onlyChanges t [.port])) ∧
    (s.port.lselLow = true → Completes .transactionStart s (fun t => t = s))

/-- READ STATUS, READ EVENT, READ PEERS and READ TABLE (sections 9.1, 9.2): each snapshot is taken at code completion and fixes
the whole response, in the codes of section 9.2 and of the event records (section 9.4); nothing else changes but, for READ STATUS,
the watch for discards of R150 (the model's own flag). The member count is the number of stations in the member view of R46. -/
def Obligations.ReadsTakeSnapshots : Prop :=
  ∀ (s : State), s.port.state = .code →
    let answers : ResponseKind → List Byte → State → Prop := fun kind bytes t =>
      t.port = { s.port with state := .responding { kind := kind, bytes := bytes, shifted := 0 } } ∧
      s.onlyChanges t [.port]
    let num : Nat → Byte := fun n => BitVec.ofNat 8 n
    let opt : Option Nat → Byte := fun o => match o with | some n => num n | none => 0xFF
    let half : Option Half → List Byte := fun o => match o with | some h => [hiByte h, loByte h] | none => [0xFF, 0xFF]
    let station : Byte := match s.station with
      | .loading => 0x00
      | .loadFailed => 0x01
      | .listening => 0x02
      | .joining => 0x03
      | .member => 0x04
      | .leaving => 0x05
      | .offline => 0x06
      | .isolated => 0x07
    let verdict : Verdict → Byte := fun v => match v with | .none => 0x00 | .expose => 0x01 | .holdoff => 0x02
    let result : Byte := match s.loader.result with | .none => 0x00 | .success => 0x01 | .failure => 0x02
    let reason : List Byte := match s.loader.reason with
      | .none => [0x00, 0xFF]
      | .noHeader => [0x01, 0xFF]
      | .badFormat => [0x02, 0xFF]
      | .param => [0x03, 0xFF]
      | .serial i => [0x04, num i]
      | .granule i => [0x05, num i]
      | .stationRange => [0x06, 0xFF]
      | .cls => [0x07, 0xFF]
      | .pattern => [0x08, 0xFF]
    let isolation : Byte := match s.station, s.membership.isolation with
      | .isolated, some .duplicate => 0x00
      | .isolated, some .config => 0x01
      | _, _ => 0xFF
    let kind : EventKind → Nat := fun x => match x with
      | .exposed => 0x01
      | .aborted => 0x02
      | .expired => 0x03
      | .cancelled => 0x04
      | .overrun => 0x05
      | .holdoff => 0x06
      | .runt => 0x07
      | .busFault => 0x08
      | .seqAdopted => 0x09
      | .collision => 0x0A
      | .peerJoined => 0x0B
      | .peerLeft => 0x0C
      | .peerLost => 0x0D
      | .admitted => 0x0E
      | .joinTimeout => 0x0F
      | .left => 0x10
      | .isolated => 0x11
    let peer : PeerState → Byte := fun p => match p with
      | .absent => 0x00
      | .joining1 => 0x11
      | .joining2 => 0x12
      | .member => 0x20
      | .missing1 => 0x31
      | .missing2 => 0x32
    (∃ view : List Nat, view.Pairwise (fun i j => i < j) ∧ (∀ k, k ∈ view ↔ s.inView k) ∧ Completes .readStatus s (fun t =>
      t.port = { s.port with state := .responding { kind := .status, shifted := 0, bytes :=
        [station, verdict s.agree.verdict, s.timer.frame, num s.sid.toNat, num view.length, result] ++ reason ++
          [num s.loader.repaired, isolation, num s.events.records.length,
            if s.events.overflow then 0x01 else 0x00] } } ∧
      t.events = { s.events with discarded := false } ∧ s.onlyChanges t [.port, .events])) ∧
    (∀ r rest, s.events.records = r :: rest → Completes .readEvent s (answers (.event true)
      ([num (kind r.kind + (if r.request = none then 128 else 0)), r.frame, opt r.peer, opt r.cls] ++ half r.request ++
        [opt r.slot, opt r.channel]))) ∧
    (s.events.records = [] → Completes .readEvent s (answers (.event false) (List.replicate 8 0xFF))) ∧
    Completes .readPeers s (answers .peers ((List.range 16).flatMap (fun k =>
      if k = s.me then [0x40, 0x00]
      else [peer (s.peer k).state, num ((if (s.peer k).heard then 128 else 0) + (s.peer k).group)]))) ∧
    (∃ cells, Completes .readTable s (answers .table
        ([verdict s.agree.published.verdict, s.agree.published.frame.getD 0xFF] ++ half s.agree.published.bitmap ++
          half s.agree.published.digest ++ cells)) ∧
      (s.agree.published.cells = none → ∀ c, s.cfg = some c → cells = List.replicate (c.slots * c.channels) 0xFF) ∧
      (s.agree.published.cells = none → s.cfg = none → cells = []) ∧
      (∀ table, s.agree.published.cells = some table → cells = table.flatMap (fun slot => slot.map (fun x => match x with
        | none => 0xFF
        | some y => num (y.station * 8 + y.cls * 2 + y.part)))))

/-- READ QUEUE and READ COUNTERS (section 9.2, R153): 61 bytes, the number of entries and twelve positions of five bytes each in
queue order, FFh where there is no entry; 26 bytes, the thirteen counters in the order of section 9.5, high byte first. The
response is fixed: no mark (a runt or not), expiry or completion after it changes it. -/
def Obligations.QueueAndCountersAreRead : Prop :=
  ∀ (s : State), s.port.state = .code → s.demand.entries.length ≤ 12 →
    let num : Nat → Byte := fun n => BitVec.ofNat 8 n
    let answered : ResponseKind → List Byte → State → Prop := fun kind bytes t =>
      t.port = { s.port with state := .responding { kind := kind, bytes := bytes, shifted := 0 } } ∧
      s.onlyChanges t [.port] ∧
      ∀ i : Instr, i = .mark ∨ i = .expiry ∨ (∃ k, i = .slotEnd k) → Completes i t (fun u => u.port = t.port)
    (∃ bytes, Completes .readQueue s (answered .queue bytes) ∧ bytes.length = 61 ∧
      byteAt bytes 0 = num s.demand.entries.length ∧
      (∀ (i : Nat) (e : DemandEntry), s.demand.entries[i]? = some e →
        (bytes.drop (1 + 5 * i)).take 5 = [hiByte e.request, loByte e.request, num e.cls, num e.age,
          match e.bound with
          | none => 0xFF
          | some (k, ch) => num (k * 4 + ch)]) ∧
      (∀ j, 1 + 5 * s.demand.entries.length ≤ j → j < 61 → byteAt bytes j = 0xFF)) ∧
    (∃ bytes, Completes .readCounters s (answered .counters bytes) ∧ bytes.length = 26 ∧
      bytes = [CounterName.damaged, .foreign, .mismatches, .collisions, .runtMarks, .busFaults, .holdoffs, .exposures,
          .aborts, .expiries, .overruns, .refusedTriggers, .unmetGrants].flatMap
        (fun n => [hiByte (s.counters.get n), loByte (s.counters.get n)]))

/-- Code bytes and transfers (section 9.1). The eight levels of LDI, the most significant bit first, name the command of the row:
reads 01h to 06h, commands 10h, 20h and 21h, and any other code is rejected. The response to a command is PENDING, C3h, and to any
other code REJECTED, EEh; the response bytes go out in order and FFh after the last, each most significant bit first, a new bit at
each falling edge of LCLK. -/
def Obligations.CodesAndTransfers : Prop :=
  (∀ b7 b6 b5 b4 b3 b2 b1 b0 : Bool,
    let code : Byte := BitVec.ofNat 8 (128 * b7.toNat + 64 * b6.toNat + 32 * b5.toNat + 16 * b4.toNat + 8 * b3.toNat +
      4 * b2.toNat + 2 * b1.toNat + b0.toNat)
    codeEvent [b7, b6, b5, b4, b3, b2, b1, b0] =
      if code = 0x01 then .readStatus
      else if code = 0x02 then .readEvent
      else if code = 0x03 then .readPeers
      else if code = 0x04 then .readTable
      else if code = 0x05 then .readQueue
      else if code = 0x06 then .readCounters
      else if code = 0x10 then .commandCodeComplete .clearCounters
      else if code = 0x20 then .commandCodeComplete .leave
      else if code = 0x21 then .commandCodeComplete .rejoin
      else .rejectedCode code) ∧
  ∀ (s : State),
    (s.port.state = .code → ∀ j, j < 8 → s.port.ldoLevel j = some (s.port.leading.getLsbD (7 - j))) ∧
    (∀ command, s.port.state = .code → Completes (.commandCodeComplete command) s (fun t =>
      t.port = { s.port with state := .responding { kind := .command command, bytes := [0xC3], shifted := 0 } } ∧
      t.port.ldo = some 0xC3 ∧ t.port.ldoLevel 0 = some (s.port.leading.getLsbD 0) ∧ s.onlyChanges t [.port])) ∧
    (∀ code : Byte, s.port.state = .code → code ∉ ([0x01, 0x02, 0x03, 0x04, 0x05, 0x06, 0x10, 0x20, 0x21] : List Byte) →
      Completes (.rejectedCode code) s (fun t =>
        t.port = { s.port with state := .responding { kind := .rejected, bytes := [0xEE], shifted := 0 } } ∧
        t.port.ldo = some 0xEE ∧ s.onlyChanges t [.port])) ∧
    (∀ r, s.port.state = .responding r → Completes .responseByteShiftedOut s (fun t =>
      t.port = { s.port with state := .responding { r with shifted := r.shifted + 1 } } ∧
      (∀ b, r.bytes[r.shifted + 1]? = some b → t.port.ldo = some b) ∧
      (r.bytes.length ≤ r.shifted + 1 → t.port.ldo = some 0xFF) ∧
      t.port.ldoLevel 0 = s.port.ldoLevel 8 ∧
      (∀ b j, t.port.ldo = some b → 1 ≤ j → j ≤ 8 → t.port.ldoLevel j = some (b.getLsbD (8 - j))) ∧
      s.onlyChanges t [.port]))

/-- The negation of LSEL (section 9.1, 9.2) in a transaction that is no command: the port is IDLE with LDO released; all twelve
bytes of READ STATUS shifted out leave the overflow flag at what was discarded since the snapshot; all eight bytes of a delivered
record remove it; nothing else has an effect. -/
def Obligations.TransactionEnds : Prop :=
  ∀ (s : State), s.port.lselLow = true →
    let closed : State → Prop := fun t =>
      t.port = { s.port with state := .idle, lselLow := false } ∧ t.port.ldo = none
    (s.port.state = .code ∨ s.port.state = .abandoned ∨ s.port.state = .idle →
      Completes .transactionEnd s (fun t => closed t ∧ s.onlyChanges t [.port])) ∧
    (∀ r, s.port.state = .responding r → r.kind = .status → 12 ≤ r.shifted →
      Completes .transactionEnd s (fun t =>
        closed t ∧ t.events = { s.events with overflow := s.events.discarded } ∧ s.onlyChanges t [.port, .events])) ∧
    (∀ r, s.port.state = .responding r → r.kind = .event true → 8 ≤ r.shifted →
      Completes .transactionEnd s (fun t =>
        closed t ∧ t.events = { s.events with records := s.events.records.drop 1 } ∧
        (t.evt = true ↔ 2 ≤ s.events.records.length) ∧ s.onlyChanges t [.port, .events])) ∧
    (∀ r, s.port.state = .responding r →
      (r.kind = .status ∧ r.shifted < 12) ∨ (r.kind = .event true ∧ r.shifted < 8) ∨ r.kind = .event false ∨
        r.kind = .peers ∨ r.kind = .table ∨ r.kind = .queue ∨ r.kind = .counters ∨ r.kind = .rejected →
      Completes .transactionEnd s (fun t => closed t ∧ s.onlyChanges t [.port]))

/-- The three commands, taken at the negation of LSEL that ends their transaction (sections 3.9, 9.1, 9.3): their effect and
result by the station state at that moment, and the command count one more. TRANSACTION_END on such a transaction is the same
event (log entry 20). -/
def Obligations.CommandsAreTaken : Prop :=
  ∀ (r : Response) (s : State), s.port.lselLow = true → s.port.state = .responding r →
    let noted : CommandResult → State → Prop := fun result t =>
      t.port = { s.port with state := .idle, lselLow := false, commandCount := s.port.commandCount + 1,
                             commandResult := result }
    (r.kind = .command .clearCounters → Completes .clearCounters s (fun t =>
      noted .accepted t ∧ (∀ n, t.counters.get n = 0) ∧ s.onlyChanges t [.port, .counters])) ∧
    (r.kind = .command .leave →
      (s.station = .member → Completes .leave s (fun t =>
        noted .accepted t ∧ t.membership = { s.membership with leavePending := true } ∧
        s.onlyChanges t [.port, .membership])) ∧
      (s.station = .listening ∨ s.station = .joining → Completes .leave s (fun t =>
        noted .accepted t ∧ t.station = .offline ∧ (∀ k, t.peer k = PeerEntry.cleared) ∧ t.membership.heardMap = 0 ∧
        t.membership.streak = 0 ∧ t.membership.foreignOnly = 0 ∧ t.membership.joiningSent = 0 ∧
        t.membership.joiningFrames = 0 ∧ t.timer = { s.timer with silence := 0 } ∧
        t.events = s.events.offer { kind := .left, frame := s.timer.frame } ∧
        s.onlyChanges t [.port, .membership, .timer, .events])) ∧
      (s.station = .leaving ∨ s.station = .offline ∨ s.station = .isolated ∨ s.station = .loading ∨
          s.station = .loadFailed →
        Completes .leave s (fun t => noted .refused t ∧ s.onlyChanges t [.port]))) ∧
    (r.kind = .command .rejoin →
      (s.station = .offline → Completes .rejoin s (fun t =>
        noted .accepted t ∧ t.station = .listening ∧ t.timer = { s.timer with frame := 0, silence := 0 } ∧
        t.membership.observation = .unaligned ∧ t.membership.listenRef = none ∧
        (∀ k, t.peer k = PeerEntry.cleared) ∧ t.membership.leavePending = false ∧
        s.onlyChanges t [.port, .membership, .timer])) ∧
      (s.station = .member → s.membership.leavePending = true → Completes .rejoin s (fun t =>
        noted .accepted t ∧ t.membership = { s.membership with leavePending := false } ∧
        s.onlyChanges t [.port, .membership])) ∧
      (s.station ≠ .offline → (s.station = .member → s.membership.leavePending = false) →
        Completes .rejoin s (fun t => noted .refused t ∧ s.onlyChanges t [.port]))) ∧
    (r.kind = .command .clearCounters → exec .transactionEnd s = exec .clearCounters s) ∧
    (r.kind = .command .leave → exec .transactionEnd s = exec .leave s) ∧
    (r.kind = .command .rejoin → exec .transactionEnd s = exec .rejoin s)

/-! ### The laws every step keeps -/

/-- The laws hold of the reset state. -/
def Obligations.ResetIsCoherent : Prop := State.reset.Coherent ∧ State.reset.BoundLaw ∧ State.reset.ClaimsInRange

/-- Every step keeps the sizes of the collections: 32 records, 12 entries, 4 claims, 16 peers, window records and stored digests. -/
def Obligations.StepKeepsSizes : Prop :=
  ∀ s t : State, s.Sized → step s = .next t → t.Sized

/-- Every step keeps load state, configuration and station state together, and the Membership Unit within what each station state
allows. -/
def Obligations.StepKeepsStations : Prop :=
  ∀ s t : State, s.Coherent → step s = .next t → t.Loaded ∧ t.Membered

/-- Every step keeps the Frame Timer within what its mode allows. -/
def Obligations.StepKeepsTimer : Prop :=
  ∀ s t : State, s.Coherent → step s = .next t → t.Timed

/-- Every step keeps the schedule's law: a verdict only in MEMBER with a digest of a COMPLETE table, requests only in MEMBER, and
an exposure only in a frame whose verdict is EXPOSE. And every step keeps the claims in range: what is heard, what the classes
claim, and the claim list being placed (R36, R37, R74, R99). -/
def Obligations.StepKeepsSchedule : Prop :=
  ∀ s t : State, step s = .next t → (s.Coherent → t.Scheduled) ∧ (s.ClaimsInRange → t.ClaimsInRange)

/-- Every step keeps the law of R107: each BOUND entry is bound to an own part-0 cell of its class under verdict EXPOSE, and no
two to one cell. -/
def Obligations.StepKeepsBindings : Prop :=
  ∀ s t : State, s.Coherent → s.BoundLaw → step s = .next t → t.BoundLaw
end

