-- ==== Sys2Proof/Laws/State.lean ====
section
/-! SUPPORT. What each named update of the state leaves in each field, so that no proof unfolds a record update. -/

namespace Sys2Proof.Machine

/-! ### `State.offer` -/

@[simp] theorem State.offer_rstLow (s : State) (r : EventRecord) : (s.offer r).rstLow = s.rstLow := rfl

@[simp] theorem State.offer_sid (s : State) (r : EventRecord) : (s.offer r).sid = s.sid := rfl

@[simp] theorem State.offer_cfg (s : State) (r : EventRecord) : (s.offer r).cfg = s.cfg := rfl

@[simp] theorem State.offer_timer (s : State) (r : EventRecord) : (s.offer r).timer = s.timer := rfl

@[simp] theorem State.offer_bus (s : State) (r : EventRecord) : (s.offer r).bus = s.bus := rfl

@[simp] theorem State.offer_membership (s : State) (r : EventRecord) : (s.offer r).membership = s.membership := rfl

@[simp] theorem State.offer_alloc (s : State) (r : EventRecord) : (s.offer r).alloc = s.alloc := rfl

@[simp] theorem State.offer_agree (s : State) (r : EventRecord) : (s.offer r).agree = s.agree := rfl

@[simp] theorem State.offer_demand (s : State) (r : EventRecord) : (s.offer r).demand = s.demand := rfl

@[simp] theorem State.offer_engine (s : State) (r : EventRecord) : (s.offer r).engine = s.engine := rfl

@[simp] theorem State.offer_loader (s : State) (r : EventRecord) : (s.offer r).loader = s.loader := rfl

@[simp] theorem State.offer_events (s : State) (r : EventRecord) : (s.offer r).events = s.events.offer r := rfl

@[simp] theorem State.offer_counters (s : State) (r : EventRecord) : (s.offer r).counters = s.counters := rfl

@[simp] theorem State.offer_port (s : State) (r : EventRecord) : (s.offer r).port = s.port := rfl

@[simp] theorem State.offer_draws (s : State) (r : EventRecord) : (s.offer r).draws = s.draws := rfl

@[simp] theorem State.offer_pending (s : State) (r : EventRecord) : (s.offer r).pending = s.pending := rfl

/-! ### `State.offerAll` -/

@[simp] theorem State.offerAll_rstLow (s : State) (rs : List EventRecord) : (s.offerAll rs).rstLow = s.rstLow := rfl

@[simp] theorem State.offerAll_sid (s : State) (rs : List EventRecord) : (s.offerAll rs).sid = s.sid := rfl

@[simp] theorem State.offerAll_cfg (s : State) (rs : List EventRecord) : (s.offerAll rs).cfg = s.cfg := rfl

@[simp] theorem State.offerAll_timer (s : State) (rs : List EventRecord) : (s.offerAll rs).timer = s.timer := rfl

@[simp] theorem State.offerAll_bus (s : State) (rs : List EventRecord) : (s.offerAll rs).bus = s.bus := rfl

@[simp] theorem State.offerAll_membership (s : State) (rs : List EventRecord) :
    (s.offerAll rs).membership =
      s.membership := rfl

@[simp] theorem State.offerAll_alloc (s : State) (rs : List EventRecord) : (s.offerAll rs).alloc = s.alloc := rfl

@[simp] theorem State.offerAll_agree (s : State) (rs : List EventRecord) : (s.offerAll rs).agree = s.agree := rfl

@[simp] theorem State.offerAll_demand (s : State) (rs : List EventRecord) : (s.offerAll rs).demand = s.demand := rfl

@[simp] theorem State.offerAll_engine (s : State) (rs : List EventRecord) : (s.offerAll rs).engine = s.engine := rfl

@[simp] theorem State.offerAll_loader (s : State) (rs : List EventRecord) : (s.offerAll rs).loader = s.loader := rfl

@[simp] theorem State.offerAll_events (s : State) (rs : List EventRecord) :
    (s.offerAll rs).events =
      rs.foldl EventQueue.offer s.events := rfl

@[simp] theorem State.offerAll_counters (s : State) (rs : List EventRecord) : (s.offerAll rs).counters = s.counters := rfl

@[simp] theorem State.offerAll_port (s : State) (rs : List EventRecord) : (s.offerAll rs).port = s.port := rfl

@[simp] theorem State.offerAll_draws (s : State) (rs : List EventRecord) : (s.offerAll rs).draws = s.draws := rfl

@[simp] theorem State.offerAll_pending (s : State) (rs : List EventRecord) : (s.offerAll rs).pending = s.pending := rfl

/-! ### `State.count` -/

@[simp] theorem State.count_rstLow (s : State) (c : CounterName) (n : Nat) : (s.count c n).rstLow = s.rstLow := rfl

@[simp] theorem State.count_sid (s : State) (c : CounterName) (n : Nat) : (s.count c n).sid = s.sid := rfl

@[simp] theorem State.count_cfg (s : State) (c : CounterName) (n : Nat) : (s.count c n).cfg = s.cfg := rfl

@[simp] theorem State.count_timer (s : State) (c : CounterName) (n : Nat) : (s.count c n).timer = s.timer := rfl

@[simp] theorem State.count_bus (s : State) (c : CounterName) (n : Nat) : (s.count c n).bus = s.bus := rfl

@[simp] theorem State.count_membership (s : State) (c : CounterName) (n : Nat) :
    (s.count c n).membership =
      s.membership := rfl

@[simp] theorem State.count_alloc (s : State) (c : CounterName) (n : Nat) : (s.count c n).alloc = s.alloc := rfl

@[simp] theorem State.count_agree (s : State) (c : CounterName) (n : Nat) : (s.count c n).agree = s.agree := rfl

@[simp] theorem State.count_demand (s : State) (c : CounterName) (n : Nat) : (s.count c n).demand = s.demand := rfl

@[simp] theorem State.count_engine (s : State) (c : CounterName) (n : Nat) : (s.count c n).engine = s.engine := rfl

@[simp] theorem State.count_loader (s : State) (c : CounterName) (n : Nat) : (s.count c n).loader = s.loader := rfl

@[simp] theorem State.count_events (s : State) (c : CounterName) (n : Nat) : (s.count c n).events = s.events := rfl

@[simp] theorem State.count_counters (s : State) (c : CounterName) (n : Nat) :
    (s.count c n).counters =
      s.counters.add c n := rfl

@[simp] theorem State.count_port (s : State) (c : CounterName) (n : Nat) : (s.count c n).port = s.port := rfl

@[simp] theorem State.count_draws (s : State) (c : CounterName) (n : Nat) : (s.count c n).draws = s.draws := rfl

@[simp] theorem State.count_pending (s : State) (c : CounterName) (n : Nat) : (s.count c n).pending = s.pending := rfl

/-! ### `State.elapse` -/

@[simp] theorem State.elapse_rstLow (s : State) (c : Settings) (n : Nat) : (s.elapse c n).rstLow = s.rstLow := rfl

@[simp] theorem State.elapse_sid (s : State) (c : Settings) (n : Nat) : (s.elapse c n).sid = s.sid := rfl

@[simp] theorem State.elapse_cfg (s : State) (c : Settings) (n : Nat) : (s.elapse c n).cfg = s.cfg := rfl

@[simp] theorem State.elapse_timer (s : State) (c : Settings) (n : Nat) :
    (s.elapse c n).timer =
      s.timer.elapse c.frameLength (s.station == .listening) n := rfl

@[simp] theorem State.elapse_bus (s : State) (c : Settings) (n : Nat) : (s.elapse c n).bus = s.bus := rfl

@[simp] theorem State.elapse_membership (s : State) (c : Settings) (n : Nat) :
    (s.elapse c n).membership =
      s.membership := rfl

@[simp] theorem State.elapse_alloc (s : State) (c : Settings) (n : Nat) : (s.elapse c n).alloc = s.alloc := rfl

@[simp] theorem State.elapse_agree (s : State) (c : Settings) (n : Nat) : (s.elapse c n).agree = s.agree := rfl

@[simp] theorem State.elapse_demand (s : State) (c : Settings) (n : Nat) : (s.elapse c n).demand = s.demand := rfl

@[simp] theorem State.elapse_engine (s : State) (c : Settings) (n : Nat) : (s.elapse c n).engine = s.engine.elapse n := rfl

@[simp] theorem State.elapse_loader (s : State) (c : Settings) (n : Nat) : (s.elapse c n).loader = s.loader := rfl

@[simp] theorem State.elapse_events (s : State) (c : Settings) (n : Nat) : (s.elapse c n).events = s.events := rfl

@[simp] theorem State.elapse_counters (s : State) (c : Settings) (n : Nat) : (s.elapse c n).counters = s.counters := rfl

@[simp] theorem State.elapse_port (s : State) (c : Settings) (n : Nat) : (s.elapse c n).port = s.port := rfl

@[simp] theorem State.elapse_draws (s : State) (c : Settings) (n : Nat) : (s.elapse c n).draws = s.draws := rfl

@[simp] theorem State.elapse_pending (s : State) (c : Settings) (n : Nat) : (s.elapse c n).pending = s.pending := rfl

/-! ### `State.advanceTo` -/

@[simp] theorem State.advanceTo_rstLow (s : State) (c : Settings) (v : Nat) : (s.advanceTo c v).rstLow = s.rstLow := rfl

@[simp] theorem State.advanceTo_sid (s : State) (c : Settings) (v : Nat) : (s.advanceTo c v).sid = s.sid := rfl

@[simp] theorem State.advanceTo_cfg (s : State) (c : Settings) (v : Nat) : (s.advanceTo c v).cfg = s.cfg := rfl

@[simp] theorem State.advanceTo_timer (s : State) (c : Settings) (v : Nat) :
    (s.advanceTo c v).timer =
      s.timer.elapse c.frameLength (s.station == .listening) (v - s.timer.value) := rfl

@[simp] theorem State.advanceTo_bus (s : State) (c : Settings) (v : Nat) : (s.advanceTo c v).bus = s.bus := rfl

@[simp] theorem State.advanceTo_membership (s : State) (c : Settings) (v : Nat) :
    (s.advanceTo c v).membership =
      s.membership := rfl

@[simp] theorem State.advanceTo_alloc (s : State) (c : Settings) (v : Nat) : (s.advanceTo c v).alloc = s.alloc := rfl

@[simp] theorem State.advanceTo_agree (s : State) (c : Settings) (v : Nat) : (s.advanceTo c v).agree = s.agree := rfl

@[simp] theorem State.advanceTo_demand (s : State) (c : Settings) (v : Nat) : (s.advanceTo c v).demand = s.demand := rfl

@[simp] theorem State.advanceTo_engine (s : State) (c : Settings) (v : Nat) :
    (s.advanceTo c v).engine =
      s.engine.elapse (v - s.timer.value) := rfl

@[simp] theorem State.advanceTo_loader (s : State) (c : Settings) (v : Nat) : (s.advanceTo c v).loader = s.loader := rfl

@[simp] theorem State.advanceTo_events (s : State) (c : Settings) (v : Nat) : (s.advanceTo c v).events = s.events := rfl

@[simp] theorem State.advanceTo_counters (s : State) (c : Settings) (v : Nat) :
    (s.advanceTo c v).counters =
      s.counters := rfl

@[simp] theorem State.advanceTo_port (s : State) (c : Settings) (v : Nat) : (s.advanceTo c v).port = s.port := rfl

@[simp] theorem State.advanceTo_draws (s : State) (c : Settings) (v : Nat) : (s.advanceTo c v).draws = s.draws := rfl

@[simp] theorem State.advanceTo_pending (s : State) (c : Settings) (v : Nat) : (s.advanceTo c v).pending = s.pending := rfl

/-! ### `State.reach` -/

@[simp] theorem State.reach_rstLow (s : State) (c : Settings) (p v : Nat) : (s.reach c p v).rstLow = s.rstLow := rfl

@[simp] theorem State.reach_sid (s : State) (c : Settings) (p v : Nat) : (s.reach c p v).sid = s.sid := rfl

@[simp] theorem State.reach_cfg (s : State) (c : Settings) (p v : Nat) : (s.reach c p v).cfg = s.cfg := rfl

@[simp] theorem State.reach_timer (s : State) (c : Settings) (p v : Nat) :
    (s.reach c p v).timer =
      { s.timer.elapse c.frameLength (s.station == .listening) (v - s.timer.value) with emitted := p + 1 } := rfl

@[simp] theorem State.reach_bus (s : State) (c : Settings) (p v : Nat) : (s.reach c p v).bus = s.bus := rfl

@[simp] theorem State.reach_membership (s : State) (c : Settings) (p v : Nat) :
    (s.reach c p v).membership =
      s.membership := rfl

@[simp] theorem State.reach_alloc (s : State) (c : Settings) (p v : Nat) : (s.reach c p v).alloc = s.alloc := rfl

@[simp] theorem State.reach_agree (s : State) (c : Settings) (p v : Nat) : (s.reach c p v).agree = s.agree := rfl

@[simp] theorem State.reach_demand (s : State) (c : Settings) (p v : Nat) : (s.reach c p v).demand = s.demand := rfl

@[simp] theorem State.reach_engine (s : State) (c : Settings) (p v : Nat) :
    (s.reach c p v).engine =
      s.engine.elapse (v - s.timer.value) := rfl

@[simp] theorem State.reach_loader (s : State) (c : Settings) (p v : Nat) : (s.reach c p v).loader = s.loader := rfl

@[simp] theorem State.reach_events (s : State) (c : Settings) (p v : Nat) : (s.reach c p v).events = s.events := rfl

@[simp] theorem State.reach_counters (s : State) (c : Settings) (p v : Nat) : (s.reach c p v).counters = s.counters := rfl

@[simp] theorem State.reach_port (s : State) (c : Settings) (p v : Nat) : (s.reach c p v).port = s.port := rfl

@[simp] theorem State.reach_draws (s : State) (c : Settings) (p v : Nat) : (s.reach c p v).draws = s.draws := rfl

@[simp] theorem State.reach_pending (s : State) (c : Settings) (p v : Nat) : (s.reach c p v).pending = s.pending := rfl

/-! ### `State.passOver` -/

@[simp] theorem State.passOver_rstLow (s : State) (p : Nat) : (s.passOver p).rstLow = s.rstLow := rfl

@[simp] theorem State.passOver_sid (s : State) (p : Nat) : (s.passOver p).sid = s.sid := rfl

@[simp] theorem State.passOver_cfg (s : State) (p : Nat) : (s.passOver p).cfg = s.cfg := rfl

@[simp] theorem State.passOver_timer (s : State) (p : Nat) :
    (s.passOver p).timer =
      { s.timer with lapsed := s.timer.lapsed.erase p } := rfl

@[simp] theorem State.passOver_bus (s : State) (p : Nat) : (s.passOver p).bus = s.bus := rfl

@[simp] theorem State.passOver_membership (s : State) (p : Nat) : (s.passOver p).membership = s.membership := rfl

@[simp] theorem State.passOver_alloc (s : State) (p : Nat) : (s.passOver p).alloc = s.alloc := rfl

@[simp] theorem State.passOver_agree (s : State) (p : Nat) : (s.passOver p).agree = s.agree := rfl

@[simp] theorem State.passOver_demand (s : State) (p : Nat) : (s.passOver p).demand = s.demand := rfl

@[simp] theorem State.passOver_engine (s : State) (p : Nat) : (s.passOver p).engine = s.engine := rfl

@[simp] theorem State.passOver_loader (s : State) (p : Nat) : (s.passOver p).loader = s.loader := rfl

@[simp] theorem State.passOver_events (s : State) (p : Nat) : (s.passOver p).events = s.events := rfl

@[simp] theorem State.passOver_counters (s : State) (p : Nat) : (s.passOver p).counters = s.counters := rfl

@[simp] theorem State.passOver_port (s : State) (p : Nat) : (s.passOver p).port = s.port := rfl

@[simp] theorem State.passOver_draws (s : State) (p : Nat) : (s.passOver p).draws = s.draws := rfl

@[simp] theorem State.passOver_pending (s : State) (p : Nat) : (s.passOver p).pending = s.pending := rfl

/-! ### `State.openWindow` -/

@[simp] theorem State.openWindow_rstLow (s : State) (kind : WindowKind) (k : Nat) :
    (s.openWindow kind k).rstLow =
      s.rstLow := rfl

@[simp] theorem State.openWindow_sid (s : State) (kind : WindowKind) (k : Nat) : (s.openWindow kind k).sid = s.sid := rfl

@[simp] theorem State.openWindow_cfg (s : State) (kind : WindowKind) (k : Nat) : (s.openWindow kind k).cfg = s.cfg := rfl

@[simp] theorem State.openWindow_timer (s : State) (kind : WindowKind) (k : Nat) :
    (s.openWindow kind k).timer =
      s.timer := rfl

@[simp] theorem State.openWindow_bus (s : State) (kind : WindowKind) (k : Nat) :
    (s.openWindow kind k).bus =
      { s.bus with window := some (kind, k) } := rfl

@[simp] theorem State.openWindow_membership (s : State) (kind : WindowKind) (k : Nat) :
    (s.openWindow kind k).membership =
      s.membership := rfl

@[simp] theorem State.openWindow_alloc (s : State) (kind : WindowKind) (k : Nat) :
    (s.openWindow kind k).alloc =
      s.alloc := rfl

@[simp] theorem State.openWindow_agree (s : State) (kind : WindowKind) (k : Nat) :
    (s.openWindow kind k).agree =
      s.agree := rfl

@[simp] theorem State.openWindow_demand (s : State) (kind : WindowKind) (k : Nat) :
    (s.openWindow kind k).demand =
      s.demand := rfl

@[simp] theorem State.openWindow_engine (s : State) (kind : WindowKind) (k : Nat) :
    (s.openWindow kind k).engine =
      s.engine := rfl

@[simp] theorem State.openWindow_loader (s : State) (kind : WindowKind) (k : Nat) :
    (s.openWindow kind k).loader =
      s.loader := rfl

@[simp] theorem State.openWindow_events (s : State) (kind : WindowKind) (k : Nat) :
    (s.openWindow kind k).events =
      s.events := rfl

@[simp] theorem State.openWindow_counters (s : State) (kind : WindowKind) (k : Nat) :
    (s.openWindow kind k).counters =
      s.counters := rfl

@[simp] theorem State.openWindow_port (s : State) (kind : WindowKind) (k : Nat) : (s.openWindow kind k).port = s.port := rfl

@[simp] theorem State.openWindow_draws (s : State) (kind : WindowKind) (k : Nat) :
    (s.openWindow kind k).draws =
      s.draws := rfl

@[simp] theorem State.openWindow_pending (s : State) (kind : WindowKind) (k : Nat) :
    (s.openWindow kind k).pending =
      s.pending := rfl

/-! ### `State.startLeadIn` -/

@[simp] theorem State.startLeadIn_rstLow (s : State) (kind : WindowKind) : (s.startLeadIn kind).rstLow = s.rstLow := rfl

@[simp] theorem State.startLeadIn_sid (s : State) (kind : WindowKind) : (s.startLeadIn kind).sid = s.sid := rfl

@[simp] theorem State.startLeadIn_cfg (s : State) (kind : WindowKind) : (s.startLeadIn kind).cfg = s.cfg := rfl

@[simp] theorem State.startLeadIn_timer (s : State) (kind : WindowKind) : (s.startLeadIn kind).timer = s.timer := rfl

@[simp] theorem State.startLeadIn_bus (s : State) (kind : WindowKind) :
    (s.startLeadIn kind).bus =
      { s.bus with tx := .leadIn kind s.station s.timer.frame s.membership.heardMap } := rfl

@[simp] theorem State.startLeadIn_membership (s : State) (kind : WindowKind) :
    (s.startLeadIn kind).membership =
      s.membership := rfl

@[simp] theorem State.startLeadIn_alloc (s : State) (kind : WindowKind) : (s.startLeadIn kind).alloc = s.alloc := rfl

@[simp] theorem State.startLeadIn_agree (s : State) (kind : WindowKind) : (s.startLeadIn kind).agree = s.agree := rfl

@[simp] theorem State.startLeadIn_demand (s : State) (kind : WindowKind) : (s.startLeadIn kind).demand = s.demand := rfl

@[simp] theorem State.startLeadIn_engine (s : State) (kind : WindowKind) : (s.startLeadIn kind).engine = s.engine := rfl

@[simp] theorem State.startLeadIn_loader (s : State) (kind : WindowKind) : (s.startLeadIn kind).loader = s.loader := rfl

@[simp] theorem State.startLeadIn_events (s : State) (kind : WindowKind) : (s.startLeadIn kind).events = s.events := rfl

@[simp] theorem State.startLeadIn_counters (s : State) (kind : WindowKind) :
    (s.startLeadIn kind).counters =
      s.counters := rfl

@[simp] theorem State.startLeadIn_port (s : State) (kind : WindowKind) : (s.startLeadIn kind).port = s.port := rfl

@[simp] theorem State.startLeadIn_draws (s : State) (kind : WindowKind) : (s.startLeadIn kind).draws = s.draws := rfl

@[simp] theorem State.startLeadIn_pending (s : State) (kind : WindowKind) : (s.startLeadIn kind).pending = s.pending := rfl

/-! ### `State.respond` -/

@[simp] theorem State.respond_rstLow (s : State) (kind : ResponseKind) (bytes : List Byte) :
    (s.respond kind bytes).rstLow =
      s.rstLow := rfl

@[simp] theorem State.respond_sid (s : State) (kind : ResponseKind) (bytes : List Byte) :
    (s.respond kind bytes).sid =
      s.sid := rfl

@[simp] theorem State.respond_cfg (s : State) (kind : ResponseKind) (bytes : List Byte) :
    (s.respond kind bytes).cfg =
      s.cfg := rfl

@[simp] theorem State.respond_timer (s : State) (kind : ResponseKind) (bytes : List Byte) :
    (s.respond kind bytes).timer =
      s.timer := rfl

@[simp] theorem State.respond_bus (s : State) (kind : ResponseKind) (bytes : List Byte) :
    (s.respond kind bytes).bus =
      s.bus := rfl

@[simp] theorem State.respond_membership (s : State) (kind : ResponseKind) (bytes : List Byte) :
    (s.respond kind bytes).membership =
      s.membership := rfl

@[simp] theorem State.respond_alloc (s : State) (kind : ResponseKind) (bytes : List Byte) :
    (s.respond kind bytes).alloc =
      s.alloc := rfl

@[simp] theorem State.respond_agree (s : State) (kind : ResponseKind) (bytes : List Byte) :
    (s.respond kind bytes).agree =
      s.agree := rfl

@[simp] theorem State.respond_demand (s : State) (kind : ResponseKind) (bytes : List Byte) :
    (s.respond kind bytes).demand =
      s.demand := rfl

@[simp] theorem State.respond_engine (s : State) (kind : ResponseKind) (bytes : List Byte) :
    (s.respond kind bytes).engine =
      s.engine := rfl

@[simp] theorem State.respond_loader (s : State) (kind : ResponseKind) (bytes : List Byte) :
    (s.respond kind bytes).loader =
      s.loader := rfl

@[simp] theorem State.respond_events (s : State) (kind : ResponseKind) (bytes : List Byte) :
    (s.respond kind bytes).events =
      s.events := rfl

@[simp] theorem State.respond_counters (s : State) (kind : ResponseKind) (bytes : List Byte) :
    (s.respond kind bytes).counters =
      s.counters := rfl

@[simp] theorem State.respond_port (s : State) (kind : ResponseKind) (bytes : List Byte) :
    (s.respond kind bytes).port =
      { s.port with state := .responding { kind := kind, bytes := bytes, shifted := 0 } } := rfl

@[simp] theorem State.respond_draws (s : State) (kind : ResponseKind) (bytes : List Byte) :
    (s.respond kind bytes).draws =
      s.draws := rfl

@[simp] theorem State.respond_pending (s : State) (kind : ResponseKind) (bytes : List Byte) :
    (s.respond kind bytes).pending =
      s.pending := rfl

/-! ### `State.observe` -/

@[simp] theorem State.observe_rstLow (s : State) : (s.observe).rstLow = s.rstLow := rfl

@[simp] theorem State.observe_sid (s : State) : (s.observe).sid = s.sid := rfl

@[simp] theorem State.observe_cfg (s : State) : (s.observe).cfg = s.cfg := rfl

@[simp] theorem State.observe_timer (s : State) : (s.observe).timer = s.timer := rfl

@[simp] theorem State.observe_bus (s : State) : (s.observe).bus = s.bus := rfl

@[simp] theorem State.observe_membership (s : State) :
    (s.observe).membership =
      { s.membership with observation := .observing, listenRef := none } := rfl

@[simp] theorem State.observe_alloc (s : State) : (s.observe).alloc = s.alloc := rfl

@[simp] theorem State.observe_agree (s : State) : (s.observe).agree = s.agree := rfl

@[simp] theorem State.observe_demand (s : State) : (s.observe).demand = s.demand := rfl

@[simp] theorem State.observe_engine (s : State) : (s.observe).engine = s.engine := rfl

@[simp] theorem State.observe_loader (s : State) : (s.observe).loader = s.loader := rfl

@[simp] theorem State.observe_events (s : State) : (s.observe).events = s.events := rfl

@[simp] theorem State.observe_counters (s : State) : (s.observe).counters = s.counters := rfl

@[simp] theorem State.observe_port (s : State) : (s.observe).port = s.port := rfl

@[simp] theorem State.observe_draws (s : State) : (s.observe).draws = s.draws := rfl

@[simp] theorem State.observe_pending (s : State) : (s.observe).pending = s.pending := rfl

/-! ### `State.enterJoining` -/

@[simp] theorem State.enterJoining_rstLow (s : State) : (s.enterJoining).rstLow = s.rstLow := rfl

@[simp] theorem State.enterJoining_sid (s : State) : (s.enterJoining).sid = s.sid := rfl

@[simp] theorem State.enterJoining_cfg (s : State) : (s.enterJoining).cfg = s.cfg := rfl

@[simp] theorem State.enterJoining_timer (s : State) : (s.enterJoining).timer = { s.timer with silence := 0 } := rfl

@[simp] theorem State.enterJoining_bus (s : State) : (s.enterJoining).bus = s.bus := rfl

@[simp] theorem State.enterJoining_membership (s : State) :
    (s.enterJoining).membership =
      { s.membership with station := .joining, joiningSent := 0, joiningFrames := 0 } := rfl

@[simp] theorem State.enterJoining_alloc (s : State) : (s.enterJoining).alloc = s.alloc := rfl

@[simp] theorem State.enterJoining_agree (s : State) : (s.enterJoining).agree = s.agree := rfl

@[simp] theorem State.enterJoining_demand (s : State) : (s.enterJoining).demand = s.demand := rfl

@[simp] theorem State.enterJoining_engine (s : State) : (s.enterJoining).engine = s.engine := rfl

@[simp] theorem State.enterJoining_loader (s : State) : (s.enterJoining).loader = s.loader := rfl

@[simp] theorem State.enterJoining_events (s : State) : (s.enterJoining).events = s.events := rfl

@[simp] theorem State.enterJoining_counters (s : State) : (s.enterJoining).counters = s.counters := rfl

@[simp] theorem State.enterJoining_port (s : State) : (s.enterJoining).port = s.port := rfl

@[simp] theorem State.enterJoining_draws (s : State) : (s.enterJoining).draws = s.draws := rfl

@[simp] theorem State.enterJoining_pending (s : State) : (s.enterJoining).pending = s.pending := rfl

/-! ### `State.enterMember` -/

@[simp] theorem State.enterMember_rstLow (s : State) : (s.enterMember).rstLow = s.rstLow := rfl

@[simp] theorem State.enterMember_sid (s : State) : (s.enterMember).sid = s.sid := rfl

@[simp] theorem State.enterMember_cfg (s : State) : (s.enterMember).cfg = s.cfg := rfl

@[simp] theorem State.enterMember_timer (s : State) : (s.enterMember).timer = s.timer := rfl

@[simp] theorem State.enterMember_bus (s : State) : (s.enterMember).bus = s.bus := rfl

@[simp] theorem State.enterMember_membership (s : State) :
    (s.enterMember).membership =
      { s.membership with station := .member, foreignOnly := 0, joiningSent := 0, joiningFrames := 0 } := rfl

@[simp] theorem State.enterMember_alloc (s : State) : (s.enterMember).alloc = s.alloc := rfl

@[simp] theorem State.enterMember_agree (s : State) : (s.enterMember).agree = s.agree := rfl

@[simp] theorem State.enterMember_demand (s : State) : (s.enterMember).demand = s.demand := rfl

@[simp] theorem State.enterMember_engine (s : State) : (s.enterMember).engine = s.engine := rfl

@[simp] theorem State.enterMember_loader (s : State) : (s.enterMember).loader = s.loader := rfl

@[simp] theorem State.enterMember_events (s : State) :
    (s.enterMember).events =
      s.events.offer { kind := .admitted, frame := s.timer.frame } := rfl

@[simp] theorem State.enterMember_counters (s : State) : (s.enterMember).counters = s.counters := rfl

@[simp] theorem State.enterMember_port (s : State) : (s.enterMember).port = s.port := rfl

@[simp] theorem State.enterMember_draws (s : State) : (s.enterMember).draws = s.draws := rfl

@[simp] theorem State.enterMember_pending (s : State) : (s.enterMember).pending = s.pending := rfl

/-! ### `State.enterOffline` -/

@[simp] theorem State.enterOffline_rstLow (s : State) : (s.enterOffline).rstLow = s.rstLow := rfl

@[simp] theorem State.enterOffline_sid (s : State) : (s.enterOffline).sid = s.sid := rfl

@[simp] theorem State.enterOffline_cfg (s : State) : (s.enterOffline).cfg = s.cfg := rfl

@[simp] theorem State.enterOffline_timer (s : State) : (s.enterOffline).timer = { s.timer with silence := 0 } := rfl

@[simp] theorem State.enterOffline_bus (s : State) : (s.enterOffline).bus = s.bus := rfl

@[simp] theorem State.enterOffline_membership (s : State) :
    (s.enterOffline).membership =
      s.membership.withdraw .offline none := rfl

@[simp] theorem State.enterOffline_alloc (s : State) : (s.enterOffline).alloc = s.alloc := rfl

@[simp] theorem State.enterOffline_agree (s : State) : (s.enterOffline).agree = s.agree := rfl

@[simp] theorem State.enterOffline_demand (s : State) : (s.enterOffline).demand = s.demand := rfl

@[simp] theorem State.enterOffline_engine (s : State) : (s.enterOffline).engine = s.engine := rfl

@[simp] theorem State.enterOffline_loader (s : State) : (s.enterOffline).loader = s.loader := rfl

@[simp] theorem State.enterOffline_events (s : State) :
    (s.enterOffline).events =
      s.events.offer { kind := .left, frame := s.timer.frame } := rfl

@[simp] theorem State.enterOffline_counters (s : State) : (s.enterOffline).counters = s.counters := rfl

@[simp] theorem State.enterOffline_port (s : State) : (s.enterOffline).port = s.port := rfl

@[simp] theorem State.enterOffline_draws (s : State) : (s.enterOffline).draws = s.draws := rfl

@[simp] theorem State.enterOffline_pending (s : State) : (s.enterOffline).pending = s.pending := rfl

/-! ### The Frame Timer's own updates -/

@[simp] theorem FrameTimer.elapse_mode (t : FrameTimer) (len : Nat) (l : Bool) (n : Nat) : (t.elapse len l n).mode =
    t.mode := rfl

@[simp] theorem FrameTimer.elapse_value (t : FrameTimer) (len : Nat) (l : Bool) (n : Nat) : (t.elapse len l n).value =
    if t.mode = .running then min (t.value + n) len else t.value := rfl

@[simp] theorem FrameTimer.elapse_prescaler (t : FrameTimer) (len : Nat) (l : Bool) (n : Nat) : (t.elapse len l n).prescaler =
    if n = 0 then t.prescaler else 0 := rfl

@[simp] theorem FrameTimer.elapse_frame (t : FrameTimer) (len : Nat) (l : Bool) (n : Nat) : (t.elapse len l n).frame =
    t.frame := rfl

@[simp] theorem FrameTimer.elapse_markLow (t : FrameTimer) (len : Nat) (l : Bool) (n : Nat) : (t.elapse len l n).markLow =
    if t.frmLow && t.mode.monitors then min (t.markLow + n) 65 else t.markLow := rfl

@[simp] theorem FrameTimer.elapse_silence (t : FrameTimer) (len : Nat) (l : Bool) (n : Nat) : (t.elapse len l n).silence =
    if l && t.mode != .stopped then min (t.silence + n) (2 * len) else t.silence := rfl

@[simp] theorem FrameTimer.elapse_ownPull (t : FrameTimer) (len : Nat) (l : Bool) (n : Nat) : (t.elapse len l n).ownPull =
    t.ownPull := rfl

@[simp] theorem FrameTimer.elapse_frmLow (t : FrameTimer) (len : Nat) (l : Bool) (n : Nat) : (t.elapse len l n).frmLow =
    t.frmLow := rfl

@[simp] theorem FrameTimer.elapse_emitted (t : FrameTimer) (len : Nat) (l : Bool) (n : Nat) : (t.elapse len l n).emitted =
    t.emitted := rfl

@[simp] theorem FrameTimer.elapse_lapsed (t : FrameTimer) (len : Nat) (l : Bool) (n : Nat) : (t.elapse len l n).lapsed =
    if n = 0 then t.lapsed else [] := rfl

@[simp] theorem FrameTimer.mark_mode (t : FrameTimer) (selfStart pulls : Bool) (l : List Nat) : (t.mark selfStart pulls l).mode =
    .running := rfl

@[simp] theorem FrameTimer.mark_value (t : FrameTimer) (selfStart pulls : Bool) (l : List Nat) : (t.mark selfStart pulls l).value =
    0 := rfl

@[simp] theorem FrameTimer.mark_prescaler (t : FrameTimer) (selfStart pulls : Bool) (l : List Nat) : (t.mark selfStart pulls l).prescaler =
    0 := rfl

@[simp] theorem FrameTimer.mark_frame (t : FrameTimer) (selfStart pulls : Bool) (l : List Nat) : (t.mark selfStart pulls l).frame =
    if selfStart then 0 else t.frame + 1 := rfl

@[simp] theorem FrameTimer.mark_markLow (t : FrameTimer) (selfStart pulls : Bool) (l : List Nat) : (t.mark selfStart pulls l).markLow =
    0 := rfl

@[simp] theorem FrameTimer.mark_silence (t : FrameTimer) (selfStart pulls : Bool) (l : List Nat) : (t.mark selfStart pulls l).silence =
    0 := rfl

@[simp] theorem FrameTimer.mark_ownPull (t : FrameTimer) (selfStart pulls : Bool) (l : List Nat) : (t.mark selfStart pulls l).ownPull =
    pulls := rfl

@[simp] theorem FrameTimer.mark_frmLow (t : FrameTimer) (selfStart pulls : Bool) (l : List Nat) : (t.mark selfStart pulls l).frmLow =
    true := rfl

@[simp] theorem FrameTimer.mark_emitted (t : FrameTimer) (selfStart pulls : Bool) (l : List Nat) : (t.mark selfStart pulls l).emitted =
    0 := rfl

@[simp] theorem FrameTimer.mark_lapsed (t : FrameTimer) (selfStart pulls : Bool) (l : List Nat) : (t.mark selfStart pulls l).lapsed =
    l := rfl

@[simp] theorem FrameTimer.rise_frmLow (t : FrameTimer) : t.rise.frmLow = false := rfl

@[simp] theorem FrameTimer.rise_markLow (t : FrameTimer) : t.rise.markLow = 0 := rfl

@[simp] theorem FrameTimer.rise_lapsed (t : FrameTimer) : t.rise.lapsed = [] := rfl

@[simp] theorem FrameTimer.rise_mode (t : FrameTimer) :
    t.rise.mode = if t.mode = .faulted then .searching else t.mode := rfl

/-! ### Reading the state after an update -/

@[simp] theorem State.offer_station (s : State) (r : EventRecord) : (s.offer r).station = s.station := rfl

@[simp] theorem State.offer_me (s : State) (r : EventRecord) : (s.offer r).me = s.me := rfl

@[simp] theorem State.count_station (s : State) (c : CounterName) (n : Nat) : (s.count c n).station = s.station := rfl

@[simp] theorem State.count_me (s : State) (c : CounterName) (n : Nat) : (s.count c n).me = s.me := rfl

@[simp] theorem State.reach_station (s : State) (c : Settings) (p v : Nat) : (s.reach c p v).station = s.station := rfl

@[simp] theorem State.reach_me (s : State) (c : Settings) (p v : Nat) : (s.reach c p v).me = s.me := rfl

@[simp] theorem State.reach_peer (s : State) (c : Settings) (p v k : Nat) : (s.reach c p v).peer k = s.peer k := rfl

@[simp] theorem State.reach_heardFrom (s : State) (c : Settings) (p v k : Nat) :
    (s.reach c p v).heardFrom k = s.heardFrom k := rfl

@[simp] theorem State.reach_ownCell (s : State) (c : Settings) (p v k : Nat) :
    (s.reach c p v).ownCell k = s.ownCell k := rfl

@[simp] theorem State.reach_ownClaimOutcome (s : State) (c : Settings) (p v : Nat) :
    (s.reach c p v).ownClaimOutcome = s.ownClaimOutcome := rfl

end Sys2Proof.Machine
end

