-- ==== Sys2Proof/Laws/Frame.lean ====
section
/-! SUPPORT. How frames compose, and the frame of every shared operation on the state: which blocks it can change. -/

namespace Sys2Proof.Machine

@[simp] theorem Block.same_refl (b : Block) (s : State) : b.same s s := by
  cases b <;> simp [Block.same]

theorem Block.same_trans {b : Block} {s t u : State} (h : b.same s t) (h' : b.same t u) : b.same s u := by
  cases b <;> simp_all [Block.same]

theorem State.onlyChanges_refl (s : State) (l : List Block) : s.onlyChanges s l := fun b _ => b.same_refl s

theorem State.onlyChanges_trans {s t u : State} {l : List Block} (h : s.onlyChanges t l) (h' : t.onlyChanges u l) :
    s.onlyChanges u l := fun b hb => Block.same_trans (h b hb) (h' b hb)

theorem State.onlyChanges_mono {s t : State} {l l' : List Block} (h : s.onlyChanges t l) (hl : ∀ b ∈ l, b ∈ l') :
    s.onlyChanges t l' := fun b hb => h b (fun hm => hb (hl b hm))

/-- A frame follows from the equality of every block outside it. -/
theorem State.onlyChanges_of {s t : State} {l : List Block} (h : ∀ b : Block, b ∈ l ∨ b.same s t) : s.onlyChanges t l :=
  fun b hb => (h b).resolve_left hb

/-! ### Records, counters, time -/

theorem State.offer_frame (s : State) (r : EventRecord) : s.onlyChanges (s.offer r) [.events] := by
  intro b hb; cases b <;> simp_all [Block.same]

theorem State.offerAll_frame (s : State) (rs : List EventRecord) : s.onlyChanges (s.offerAll rs) [.events] := by
  intro b hb; cases b <;> simp_all [Block.same]

theorem State.count_frame (s : State) (c : CounterName) (n : Nat) : s.onlyChanges (s.count c n) [.counters] := by
  intro b hb; cases b <;> simp_all [Block.same]

theorem State.elapse_frame (s : State) (c : Settings) (n : Nat) : s.onlyChanges (s.elapse c n) [.timer, .engine] := by
  intro b hb; cases b <;> simp_all [Block.same]

theorem State.reach_frame (s : State) (c : Settings) (p v : Nat) : s.onlyChanges (s.reach c p v) [.timer, .engine] := by
  intro b hb; cases b <;> simp_all [Block.same]

theorem State.advanceTo_frame (s : State) (c : Settings) (v : Nat) :
    s.onlyChanges (s.advanceTo c v) [.timer, .engine] := by
  intro b hb; cases b <;> simp_all [Block.same]

theorem State.advanceClock_frame (s : State) (c : Settings) (v clocks : Nat) :
    s.onlyChanges (s.advanceClock c v clocks) [.timer, .engine] := by
  intro b hb
  have h := s.advanceTo_frame c v b hb
  simp only [State.advanceClock]
  split <;> cases b <;> simp_all [Block.same]

theorem State.passOver_frame (s : State) (p : Nat) : s.onlyChanges (s.passOver p) [.timer] := by
  intro b hb; cases b <;> simp_all [Block.same]

/-! ### Demand Queue -/

theorem State.retire_frame (s : State) (slot channel : Nat) :
    s.onlyChanges (s.retire slot channel) [.demand, .events, .counters] := by
  intro b hb
  unfold State.retire
  split <;> cases b <;> simp_all [Block.same]

theorem State.abortItem_frame (s : State) : s.onlyChanges s.abortItem [.demand, .events, .counters] := by
  intro b hb
  unfold State.abortItem
  split <;> cases b <;> simp_all [Block.same]

theorem State.cancelQueue_frame (s : State) : s.onlyChanges s.cancelQueue [.demand, .events, .counters] := by
  intro b hb
  have h := s.abortItem_frame b hb
  cases b <;> simp_all [Block.same, State.cancelQueue]

theorem State.demandMark_frame (s : State) (c : Settings) (cls : MarkClass) :
    s.onlyChanges (s.demandMark c cls) [.demand, .events, .counters] := by
  intro b hb
  have h := s.abortItem_frame b hb
  unfold State.demandMark
  by_cases hc : cls = .runt <;> cases b <;> simp_all [Block.same]

theorem State.bind_frame (s : State) (c : Settings) : s.onlyChanges (s.bind c) [.demand] := by
  intro b hb; cases b <;> simp_all [Block.same, State.bind]

/-! ### Pattern Engine -/

theorem State.endExposure_frame (s : State) (c : Settings) (r : RunningPattern) (e : Bool) :
    s.onlyChanges (s.endExposure c r e) [.demand, .engine, .events, .counters] := by
  intro b hb
  have h := State.retire_frame { s with engine := PatternEngine.rest c e } r.slot r.channel b (by simp_all)
  cases b <;> simp_all [Block.same, State.endExposure]

theorem State.abortEngine_frame (s : State) (c : Settings) : s.onlyChanges (s.abortEngine c) [.engine] := by
  intro b hb
  unfold State.abortEngine
  split <;> cases b <;> simp_all [Block.same]

theorem State.engineMark_frame (s : State) (c : Settings) (cls : MarkClass) :
    s.onlyChanges (s.engineMark c cls) [.demand, .engine, .events, .counters] := by
  unfold State.engineMark
  split
  · exact State.onlyChanges_mono (s.abortEngine_frame c) (by simp)
  · exact s.endExposure_frame c _ _
  · exact s.onlyChanges_refl _

/-! ### Station states -/

theorem State.exitMember_frame (s : State) :
    s.onlyChanges s.exitMember [.membership, .agree, .demand, .events, .counters] := by
  intro b hb
  have h := s.cancelQueue_frame b (by simp_all)
  unfold State.exitMember
  split <;> cases b <;> simp_all [Block.same]

theorem State.enterListening_frame (s : State) :
    s.onlyChanges s.enterListening [.timer, .membership, .agree, .demand, .events, .counters] := by
  intro b hb
  have h := s.exitMember_frame b (by simp_all)
  cases b <;> simp_all [Block.same, State.enterListening]

theorem State.enterLeaving_frame (s : State) :
    s.onlyChanges s.enterLeaving [.membership, .agree, .demand, .events, .counters] := by
  intro b hb
  have h := s.exitMember_frame b hb
  cases b <;> simp_all [Block.same, State.enterLeaving]

theorem State.enterOffline_frame (s : State) : s.onlyChanges s.enterOffline [.timer, .membership, .events] := by
  intro b hb; cases b <;> simp_all [Block.same]

theorem State.enterJoining_frame (s : State) : s.onlyChanges s.enterJoining [.timer, .membership] := by
  intro b hb; cases b <;> simp_all [Block.same]

theorem State.enterMember_frame (s : State) : s.onlyChanges s.enterMember [.membership, .events] := by
  intro b hb; cases b <;> simp_all [Block.same]

theorem State.enterIsolated_frame (s : State) (why : IsolationReason) :
    s.onlyChanges (s.enterIsolated why) [.timer, .membership, .agree, .demand, .events, .counters, .draws] := by
  intro b hb
  have h := s.exitMember_frame b (by simp_all)
  have h' := (s.offer { kind := .isolated, frame := s.timer.frame, channel := some why.code }).exitMember_frame b
    (by simp_all)
  unfold State.enterIsolated
  simp only []
  split
  · split <;> cases b <;> simp_all [Block.same]
  · cases b <;> simp_all [Block.same]

end Sys2Proof.Machine
end

