-- ==== Sys2Proof/Laws/Effects.lean ====
section
/-! SUPPORT. What the shared operations do: one lemma for each, to be cited in place of unfolding. -/

namespace Sys2Proof.Machine

/-! ### The Event Queue -/

/-- All an offer can do (R155). -/
theorem EventQueue.offer_cases (q : EventQueue) (r : EventRecord) :
    (q.records.length < 32 ∧ q.offer r = { q with records := q.records ++ [r] }) ∨
    (32 ≤ q.records.length ∧ q.offer r = { q with overflow := true, discarded := true }) := by
  unfold EventQueue.offer
  split
  · exact .inl ⟨‹_›, rfl⟩
  · exact .inr ⟨by omega, rfl⟩

theorem EventQueue.offer_length_le (q : EventQueue) (r : EventRecord) (h : q.records.length ≤ 32) :
    (q.offer r).records.length ≤ 32 := by
  rcases q.offer_cases r with ⟨hl, he⟩ | ⟨-, he⟩ <;> simp [he] <;> omega

theorem EventQueue.foldl_offer_length_le (rs : List EventRecord) (q : EventQueue) (h : q.records.length ≤ 32) :
    (rs.foldl EventQueue.offer q).records.length ≤ 32 := by
  induction rs generalizing q with
  | nil => simpa using h
  | cons r rs ih => exact ih _ (q.offer_length_le r h)

/-- All that offers one after another can do (R155). -/
theorem EventQueue.foldl_offer (rs : List EventRecord) (q : EventQueue) (h : q.records.length ≤ 32) :
    rs.foldl EventQueue.offer q =
      { records := (q.records ++ rs).take 32
        overflow := q.overflow || decide (32 < q.records.length + rs.length)
        discarded := q.discarded || decide (32 < q.records.length + rs.length) } := by
  induction rs generalizing q with
  | nil => simp [List.take_of_length_le h, Nat.not_lt.mpr h]
  | cons r rs ih =>
    rw [List.foldl_cons, ih _ (q.offer_length_le r h)]
    rcases q.offer_cases r with ⟨hl, he⟩ | ⟨hl, he⟩
    · simp [he, Nat.add_assoc, Nat.add_comm 1]
    · have : q.records.length = 32 := by omega
      simp [he, this]

/-- The events of `t` are those of `s` with further records offered. -/
def State.offersMore (s t : State) : Prop := ∃ rs : List EventRecord, t.events = rs.foldl EventQueue.offer s.events

theorem State.offersMore_refl (s : State) : s.offersMore s := ⟨[], rfl⟩

theorem State.offersMore_of_eq {s t : State} (h : t.events = s.events) : s.offersMore t := ⟨[], h⟩

theorem State.offersMore_trans {s t u : State} (h : s.offersMore t) (h' : t.offersMore u) : s.offersMore u := by
  obtain ⟨rs, hr⟩ := h
  obtain ⟨rs', hr'⟩ := h'
  exact ⟨rs ++ rs', by rw [hr', hr, List.foldl_append]⟩

theorem State.retire_offers (s : State) (slot channel : Nat) : s.offersMore (s.retire slot channel) := by
  unfold State.retire
  split
  · exact ⟨[_], rfl⟩
  · exact s.offersMore_refl

theorem State.abortItem_offers (s : State) : s.offersMore s.abortItem := by
  unfold State.abortItem
  split
  · exact ⟨[_], rfl⟩
  · exact s.offersMore_refl

theorem State.cancelQueue_offers (s : State) : s.offersMore s.cancelQueue :=
  State.offersMore_trans s.abortItem_offers ⟨_, rfl⟩

theorem State.exitMember_offers (s : State) : s.offersMore s.exitMember := by
  unfold State.exitMember
  split
  · exact State.offersMore_trans s.cancelQueue_offers (State.offersMore_of_eq rfl)
  · exact s.offersMore_refl

theorem State.enterListening_offers (s : State) : s.offersMore s.enterListening :=
  State.offersMore_trans s.exitMember_offers (State.offersMore_of_eq rfl)

theorem State.enterLeaving_offers (s : State) : s.offersMore s.enterLeaving :=
  State.offersMore_trans s.exitMember_offers (State.offersMore_of_eq rfl)

theorem State.offer_offers (s : State) (r : EventRecord) : s.offersMore (s.offer r) := ⟨[r], rfl⟩

theorem State.offerAll_offers (s : State) (rs : List EventRecord) : s.offersMore (s.offerAll rs) := ⟨rs, rfl⟩

theorem State.enterIsolated_offers (s : State) (why : IsolationReason) : s.offersMore (s.enterIsolated why) := by
  unfold State.enterIsolated
  simp only []
  split
  · split
    · exact State.offersMore_trans (s.offer_offers _)
        (State.offersMore_trans (State.exitMember_offers _) (State.offersMore_of_eq rfl))
    · exact State.offersMore_trans s.exitMember_offers
        (State.offersMore_trans (State.offer_offers _ _) (State.offersMore_of_eq rfl))
  · exact State.offersMore_trans (s.offer_offers _) (State.offersMore_of_eq rfl)

theorem State.demandMark_offers (s : State) (c : Settings) (cls : MarkClass) : s.offersMore (s.demandMark c cls) := by
  unfold State.demandMark
  by_cases h : cls = .runt
  · simp only [h, ite_true]
    exact State.offersMore_trans s.abortItem_offers ⟨_, rfl⟩
  · simp only [h, ite_false]
    exact ⟨_, rfl⟩

theorem State.engineMark_offers (s : State) (c : Settings) (cls : MarkClass) : s.offersMore (s.engineMark c cls) := by
  unfold State.engineMark
  split
  · exact State.offersMore_of_eq ((s.abortEngine_frame c) .events (by simp))
  · exact State.offersMore_trans (State.offersMore_of_eq rfl) (State.retire_offers _ _ _)
  · exact s.offersMore_refl

theorem State.membershipMark_offers (s : State) (cls : MarkClass) (self : Bool) :
    s.offersMore (s.membershipMark cls self) := by
  unfold State.membershipMark
  simp only []
  split
  · split
    · exact State.offersMore_of_eq rfl
    · split
      · exact State.offersMore_of_eq rfl
      · exact State.offersMore_of_eq rfl
  · exact ⟨[_], rfl⟩
  · exact State.offersMore_of_eq rfl

/-! ### Counters (R158) -/

theorem saturatingAdd_toNat (x : Half) (n : Nat) : (saturatingAdd x n).toNat = min (x.toNat + n) 65535 := by
  simp only [saturatingAdd, BitVec.toNat_ofNat]
  omega

/-- All an increment can do: the counter it names grows, to 65535 at most, and the others stand. -/
theorem Counters.get_add (k : Counters) (c d : CounterName) (n : Nat) :
    (k.add c n).get d = if d = c then saturatingAdd (k.get c) n else k.get d := by
  cases c <;> cases d <;> rfl

/-! ### Time -/

theorem State.emits_of_awaits {s : State} {c : Settings} {place : Nat} (h : s.awaits c place) : s.emits place = true := by
  obtain ⟨-, hm, he, -⟩ := h
  simp [State.emits, State.timing, hm, he]

/-- An awaited phase event is emitted, and the block reacts to it (R4). -/
theorem State.phase_of_awaits {s : State} {c : Settings} {place : Nat} (h : s.awaits c place) (v : Nat)
    (react : State → State) : s.phase c place v react = react (s.reach c place v) := by
  have hl : place ∉ s.timer.lapsed := h.2.2.2
  simp [State.phase, hl, State.emits_of_awaits h]

/-- All a phase event can do: it is passed over (R12), it is emitted and the block reacts (R4), or it cannot come. -/
theorem State.phase_cases (s : State) (c : Settings) (place v : Nat) (react : State → State) :
    (place ∈ s.timer.lapsed ∧ s.phase c place v react = s.passOver place) ∨
    (place ∉ s.timer.lapsed ∧ s.timer.mode = .running ∧ s.timer.emitted ≤ place ∧
      s.phase c place v react = react (s.reach c place v)) ∨
    (place ∉ s.timer.lapsed ∧ ¬(s.timer.mode = .running ∧ s.timer.emitted ≤ place) ∧ s.phase c place v react = s) := by
  by_cases hl : place ∈ s.timer.lapsed
  · exact .inl ⟨hl, by simp [State.phase, hl]⟩
  · by_cases he : s.timer.mode = .running ∧ s.timer.emitted ≤ place
    · exact .inr (.inl ⟨hl, he.1, he.2, by simp [State.phase, State.emits, State.timing, hl, he.1, he.2]⟩)
    · exact .inr (.inr ⟨hl, he, by simp_all [State.phase, State.emits, State.timing]⟩)

theorem State.reach_value (s : State) (c : Settings) (p v : Nat) (hm : s.timer.mode = .running) (hv : s.timer.value ≤ v)
    (hl : v ≤ c.frameLength) : (s.reach c p v).timer.value = v := by
  simp [hm]
  omega

theorem State.reach_engineKept (s : State) (c : Settings) (p v : Nat) : s.engineKept (s.reach c p v) := by
  simp only [State.engineKept, State.reach_engine, PatternEngine.elapse]
  split <;> simp

theorem State.advanceTo_engineKept (s : State) (c : Settings) (v : Nat) : s.engineKept (s.advanceTo c v) := by
  simp only [State.engineKept, State.advanceTo_engine, PatternEngine.elapse]
  split <;> simp

theorem State.advanceClock_engineKept (s : State) (c : Settings) (v clocks : Nat) :
    s.engineKept (s.advanceClock c v clocks) := by
  have h := s.advanceTo_engineKept c v
  simp only [State.advanceClock]
  split
  · simpa [State.engineKept, PatternEngine.elapse] using h
  · exact h

/-- Where time passes to a place within a tu that is not behind, the value and the prescaler are those of that place (R1,
R21, R122). -/
theorem State.advanceClock_timer (s : State) (c : Settings) (v clocks : Nat) (hm : s.timer.mode = .running)
    (hv : s.timer.value ≤ v) (hl : v ≤ c.frameLength) (hp : s.timer.value = v → s.timer.prescaler ≤ clocks) :
    (s.advanceClock c v clocks).timer.value = v ∧ (s.advanceClock c v clocks).timer.prescaler = clocks := by
  have h1 : (s.advanceTo c v).timer.value = v := by
    simp [hm]
    omega
  have h2 : (s.advanceTo c v).timer.prescaler ≤ clocks := by
    simp only [State.advanceTo_timer, FrameTimer.elapse_prescaler]
    split
    · exact hp (by omega)
    · omega
  simp only [State.advanceClock, h1, true_and]
  split
  · exact ⟨rfl, rfl⟩
  · exact ⟨h1, by omega⟩

/-- Time that passes ends the REFCLK period of rest (R126). -/
theorem PatternEngine.elapse_of_pos (e : PatternEngine) (n : Nat) (h : 0 < n) :
    e.elapse n = { e with justEnded := false, gap := false } := by
  simp [PatternEngine.elapse, Nat.pos_iff_ne_zero.mp h]

/-! ### Instants of the frame (R3, R4) -/

theorem Settings.claimStart_le (c : Settings) {k : Nat} (h : k < c.windows) : c.claimStart k ≤ c.frameLength := by
  have h1 : 160 * c.bitTu * k ≤ 240 * c.windows * c.bitTu := by nlinarith
  unfold Settings.claimStart Settings.frameLength
  omega

theorem Settings.claimClose_le (c : Settings) : c.claimClose ≤ c.frameLength := by
  have h1 : 160 * c.windows * c.bitTu ≤ 240 * c.windows * c.bitTu := by nlinarith [Nat.zero_le (c.windows * c.bitTu)]
  unfold Settings.claimClose Settings.frameLength
  omega

theorem Settings.digestStart_le (c : Settings) {k : Nat} (h : k < c.windows) : c.digestStart k ≤ c.digestClose := by
  have h1 : 80 * c.bitTu * k ≤ 80 * c.windows * c.bitTu := by nlinarith
  have h2 : 240 * c.windows * c.bitTu = 160 * c.windows * c.bitTu + 80 * c.windows * c.bitTu := by ring
  unfold Settings.digestStart Settings.claimClose Settings.digestClose
  omega

theorem Settings.digestClose_le (c : Settings) : c.digestClose ≤ c.frameLength := by
  unfold Settings.digestClose Settings.frameLength
  omega

theorem Settings.slotEndAt_le (c : Settings) {k : Nat} (h : k < c.slots) : c.slotEndAt k ≤ c.frameLength - c.tail := by
  have h1 : c.slotLen * (k + 1) ≤ c.slots * c.slotLen := by nlinarith
  unfold Settings.slotEndAt Settings.slotStartAt Settings.frameLength
  omega

theorem Settings.slotStartAt_le (c : Settings) {k : Nat} (h : k < c.slots) : c.slotStartAt k ≤ c.frameLength := by
  have h1 : c.slotLen * k ≤ c.slots * c.slotLen := by nlinarith
  unfold Settings.slotStartAt Settings.frameLength
  omega

/-! ### The Demand Queue and the exits from MEMBER (R113, R85) -/

theorem State.abortItem_of_none (s : State) (h : ∀ it ∈ s.demand.exposures, it.running = false) : s.abortItem = s := by
  unfold State.abortItem
  have hf : s.demand.exposures.find? (·.running) = none := by
    rw [List.find?_eq_none]
    intro x hx
    simp [h x hx]
  rw [hf]

theorem State.cancelQueue_demand (s : State) :
    s.cancelQueue.demand.entries = [] ∧ s.cancelQueue.demand.claimRecord = [] ∧ s.cancelQueue.demand.exposures = [] :=
  ⟨rfl, rfl, rfl⟩

theorem State.exitMember_of_ne (s : State) (h : s.station ≠ .member) : s.exitMember = s := by
  simp [State.exitMember, h]

theorem State.exitMember_of_member (s : State) (h : s.station = .member) :
    s.exitMember.demand = s.cancelQueue.demand ∧ s.exitMember.events = s.cancelQueue.events ∧
    s.exitMember.agree = { s.agree with verdict := .none, ownDigest := none } ∧
    s.exitMember.membership = { s.membership with leavePending := false } ∧
    s.exitMember.counters = s.cancelQueue.counters := by
  have hm : s.cancelQueue.membership = s.membership := s.cancelQueue_frame .membership (by simp)
  have ha : s.cancelQueue.agree = s.agree := s.cancelQueue_frame .agree (by simp)
  simp [State.exitMember, h, hm, ha]

/-! ### The own cell of a slot (R68, R120) -/

/-- The first own cell of a row of cells, counted from `n`. -/
theorem findOwn_eq_some (me : Nat) (l : List (Option Cell)) (n ch : Nat) (x : Cell) :
    (l.zipIdx n).findSome? (fun p => match p.1 with
      | some x => if x.station = me then some (p.2, x) else none
      | none => none) = some (ch, x) ↔
    ∃ i, ch = n + i ∧ l.getD i none = some x ∧ x.station = me ∧
      ∀ j y, j < i → l.getD j none = some y → y.station ≠ me := by
  induction l generalizing n with
  | nil => simp
  | cons a l ih =>
    rw [List.zipIdx_cons, List.findSome?_cons]
    by_cases h : ∃ z, a = some z ∧ z.station = me
    · obtain ⟨z, rfl, hz⟩ := h
      simp only [hz, if_true, Option.some.injEq, Prod.mk.injEq]
      constructor
      · rintro ⟨rfl, rfl⟩
        exact ⟨0, rfl, rfl, hz, fun j y hj => absurd hj (by omega)⟩
      · rintro ⟨i, rfl, hx, hm, hj⟩
        match i with
        | 0 => exact ⟨rfl, by simpa using hx⟩
        | i + 1 => exact absurd hz (hj 0 z (by omega) rfl)
    · have hn : (match a with
          | some x => if x.station = me then some (n, x) else none
          | none => none) = none := by
        cases a with
        | none => rfl
        | some z => simpa using fun hz => h ⟨z, rfl, hz⟩
      simp only [hn, ih]
      constructor
      · rintro ⟨i, rfl, hx, hm, hj⟩
        refine ⟨i + 1, by omega, hx, hm, fun j y hlt hy => ?_⟩
        match j with
        | 0 => exact fun hs => h ⟨y, hy, hs⟩
        | j + 1 => exact hj j y (by omega) hy
      · rintro ⟨i, rfl, hx, hm, hj⟩
        match i with
        | 0 => exact absurd ⟨x, hx, hm⟩ h
        | i + 1 => exact ⟨i, by omega, hx, hm, fun j y hlt hy => hj (j + 1) y (by omega) hy⟩

/-- `ownCell` finds the cell of `ownCellIs`. -/
theorem State.ownCell_eq_some (s : State) (k ch : Nat) (x : Cell) :
    s.ownCell k = some (ch, x) ↔ s.ownCellIs k ch x := by
  unfold State.ownCell State.ownCellIs Table.cell
  split
  · rename_i hc
    exact (findOwn_eq_some s.me (s.alloc.table.getD k []) 0 ch x).trans (by simp [hc])
  · rename_i hc
    simp [hc]

/-- `ownCell` finds nothing exactly where the table is not COMPLETE or the slot holds no own cell. -/
theorem State.ownCell_eq_none (s : State) (k : Nat) :
    s.ownCell k = none ↔ s.alloc.status ≠ .complete ∨ ∀ ch x, s.alloc.table.cell k ch = some x → x.station ≠ s.me := by
  constructor
  · intro h
    by_cases hc : s.alloc.status = .complete
    · refine .inr fun ch => ?_
      induction ch using Nat.strongRecOn with
      | ind ch ih =>
        intro x hx hm
        have := (s.ownCell_eq_some k ch x).mpr ⟨hc, hx, hm, fun ch' y hlt hy => ih ch' hlt y hy⟩
        rw [h] at this
        cases this
    · exact .inl hc
  · intro h
    match ho : s.ownCell k with
    | none => rfl
    | some (ch, x) =>
      obtain ⟨hc, hx, hm, -⟩ := (s.ownCell_eq_some k ch x).mp ho
      exact h.elim (fun h => absurd hc h) (fun h => absurd hm (h ch x hx))

/-! ### Trigger filters (R161) -/

/-- A run below D stays below D. -/
theorem TrgFilter.hold_run_lt (f : TrgFilter) (d : Nat) (level : Bool) (n : Nat) (h : f.run < d) :
    (f.hold d level n).run < d := by
  unfold TrgFilter.hold
  split
  · exact h
  · split
    · exact Nat.zero_lt_of_lt h
    · split
      · exact Nat.zero_lt_of_lt h
      · exact Nat.lt_of_not_le ‹_›

/-- It makes no difference where the samples of one level are cut into two commands. -/
theorem TrgFilter.hold_add (f : TrgFilter) (d : Nat) (level : Bool) (n m : Nat) :
    (f.hold d level n).hold d level m = f.hold d level (n + m) := by
  unfold TrgFilter.hold
  by_cases hn : n = 0
  · simp [hn]
  · by_cases hl : level = f.high
    · by_cases hm : m = 0 <;> simp [hn, hl, hm]
    · by_cases hd : d ≤ f.run + n
      · have : d ≤ f.run + (n + m) := by omega
        by_cases hm : m = 0 <;> simp [hn, hl, hd, hm, this]
      · by_cases hm : m = 0 <;> simp [hn, hl, hd, hm, Nat.add_assoc]

/-- The filter of one input after an update of the other's, or of its own. -/
@[simp] theorem DemandQueue.filterOf_setFilter (q : DemandQueue) (i j : TrgInput) (f : TrgFilter) :
    (q.setFilter i f).filterOf j = if j = i then f else q.filterOf j := by
  cases i <;> cases j <;> rfl

/-! ### The member view and the claim list -/

/-- The member view holds the stations of R46. -/
theorem State.mem_memberView (s : State) (k : Nat) : k ∈ s.memberView ↔ s.inView k := by
  unfold State.memberView State.inView
  rw [List.mem_filter, List.mem_range]
  refine and_congr_right fun _ => ?_
  by_cases hk : k = s.me
  · simp [hk]
  · cases h : (s.peer k).state <;> simp [hk]

/-- The member view is in ascending order. -/
theorem State.memberView_pairwise (s : State) : s.memberView.Pairwise (fun i j => i < j) :=
  List.Pairwise.filter _ List.pairwise_lt_range

/-- The entries of one station's claims: one for each, with its place (R74, R76). -/
theorem mem_entriesOf (frame : Byte) (station group : Nat) (claims : List Claim) (e : ClaimEntry) :
    e ∈ entriesOf frame station group claims ↔ ∃ x, claims[e.position]? = some x ∧
      e = { station := station, group := group, cls := x.cls, priority := x.priority, span := x.span, count := x.count,
            position := e.position, rank := rotationRank frame station, granted := 0, unmet := 0 } := by
  unfold entriesOf
  rw [List.mem_map]
  constructor
  · rintro ⟨⟨x, i⟩, hx, rfl⟩
    exact ⟨x, List.mem_zipIdx_iff_getElem?.mp hx, rfl⟩
  · rintro ⟨x, hx, he⟩
    exact ⟨(x, e.position), List.mem_zipIdx_iff_getElem?.mpr hx, he.symm⟩

/-- The model's rank is the rotation rank of R76. -/
theorem rotationRank_eq (frame : Byte) (station : Nat) :
    (rotationRank frame station : Int) = ((station : Int) - ((frame.toNat % 16 : Nat) : Int)) % 16 := by
  unfold rotationRank; omega

/-! ### Bitmaps (R36, R44, R86) -/

theorem bitmapOf_foldl_getLsbD (l : List Nat) (acc : Half) (i : Nat) (hi : i < 16) :
    (l.foldl (fun acc k => acc ||| (1#16 <<< k)) acc).getLsbD i = (acc.getLsbD i || decide (i ∈ l)) := by
  induction l generalizing acc with
  | nil => simp
  | cons k l ih =>
    rw [List.foldl_cons, ih]
    by_cases h : i = k
    · subst h
      simp [hi]
    · have hk : (1#16 <<< k).getLsbD i = false := by
        rw [BitVec.getLsbD_shiftLeft]
        by_cases hlt : i < k
        · simp [hlt]
        · have : i - k ≠ 0 := by omega
          simp [BitVec.getLsbD_one, this]
      simp [hk, h]

/-- Bit i of a bitmap is set for the stations of the list. -/
theorem bitmapOf_getLsbD (l : List Nat) (i : Nat) (hi : i < 16) : (bitmapOf l).getLsbD i = decide (i ∈ l) := by
  unfold bitmapOf
  rw [bitmapOf_foldl_getLsbD l 0#16 i hi]
  simp

/-! ### The reservation table -/

theorem Table.fill_length (t : Table) (s c : Nat) (x : Cell) : (t.fill s c x).length = t.length := by
  simp [Table.fill]

/-- All a fill can do: the cell it names holds what was written, where the table has one; every other cell stands. -/
theorem Table.cell_fill (t : Table) (s c : Nat) (x : Cell) (s' c' : Nat) :
    (t.fill s c x).cell s' c' =
      if s' = s ∧ c' = c ∧ s < t.length ∧ c < (t.getD s []).length then some x else t.cell s' c' := by
  unfold Table.fill Table.cell
  by_cases hs : s' = s
  · subst hs
    by_cases hl : s' < t.length
    · by_cases hc : c' = c
      · subst hc
        by_cases hcl : c' < (t.getD s' []).length
        · simp_all [List.getD_eq_getElem?_getD]
        · simp_all [List.getD_eq_getElem?_getD]
      · simp_all [List.getD_eq_getElem?_getD, Ne.symm hc]
    · simp_all [List.getD_eq_getElem?_getD]
  · simp_all [List.getD_eq_getElem?_getD, Ne.symm hs]

theorem emptyTable_cell (slots channels s c : Nat) : (emptyTable slots channels).cell s c = none := by
  unfold emptyTable Table.cell
  by_cases hs : s < slots <;> by_cases hc : c < channels <;>
    simp_all [List.getD_eq_getElem?_getD]

/-! ### The start search -/

/-- The start search from any place: `from_` is where the model's stands, `t` where that of R29 does, and `pre` is behind it. -/
theorem startSearch_iff (line : DatLine) (bd : Nat) (l pre : List Nat) (from_ t e : Nat) (hl : falls line = pre ++ l)
    (hpre : ∀ x ∈ pre, x < t) (ht : from_ ≤ t)
    (hagain : ∀ x, from_ ≤ x → x < t → x + bd / 2 = from_ ∧ from_ ≤ 8 * bd ∧ lowAt line from_ = false) :
    startSearch line bd l from_ = some e ↔ ∃ falseStarts, searchAccepts line bd t falseStarts e := by
  have hskip : (falls line).find? (fun x => decide (t ≤ x)) = l.find? (fun x => decide (t ≤ x)) := by
    rw [hl, List.find?_append, List.find?_eq_none.mpr, Option.none_or]
    exact fun x hx => by simpa using hpre x hx
  induction l generalizing pre from_ t with
  | nil =>
    refine ⟨fun h => by simp [startSearch] at h, ?_⟩
    rintro ⟨_ | ⟨f, more⟩, h⟩ <;> simp [searchAccepts, hskip] at h
  | cons x rest ih =>
    have hrest : ∀ t', t ≤ t' → x < t' → ∀ y ∈ pre ++ [x], y < t' := by
      intro t' h h' y hy
      rcases List.mem_append.mp hy with hy | hy
      · exact Nat.lt_of_lt_of_le (hpre y hy) h
      · simp at hy; omega
    have step : ∀ from_' t', t ≤ t' → x < t' → from_' ≤ t' →
        (∀ y, from_' ≤ y → y < t' → y + bd / 2 = from_' ∧ from_' ≤ 8 * bd ∧ lowAt line from_' = false) →
        (startSearch line bd rest from_' = some e ↔ ∃ fs, searchAccepts line bd t' fs e) := by
      intro from_' t' h h' hle hag
      refine ih (pre ++ [x]) from_' t' (by simp [hl]) (hrest t' h h') hle hag ?_
      rw [hl, show pre ++ x :: rest = (pre ++ [x]) ++ rest by simp, List.find?_append, List.find?_eq_none.mpr, Option.none_or]
      exact fun y hy => by simpa using hrest t' h h' y hy
    by_cases hx : x < t
    · have hgo : startSearch line bd (x :: rest) from_ = startSearch line bd rest from_ := by
        simp only [startSearch]
        split
        · rfl
        · obtain ⟨h1, h2, h3⟩ := hagain x (by omega) hx
          simp [h1, h3, Nat.not_lt.mpr h2]
      rw [hgo]
      exact step from_ t (Nat.le_refl t) hx ht hagain
    · have hfind : (falls line).find? (fun y => decide (t ≤ y)) = some x := by
        rw [hskip]; simp [Nat.not_lt.mp hx]
      simp only [startSearch, show ¬ x < from_ by omega, if_false]
      split
      · refine ⟨fun h => by simp at h, ?_⟩
        rintro ⟨_ | ⟨f, more⟩, h⟩ <;> simp only [searchAccepts, hfind, Option.some.injEq] at h <;> omega
      · split
        · next hlow =>
          constructor
          · intro h
            obtain rfl : x = e := by simpa using h
            exact ⟨[], hfind, by omega, hlow⟩
          · rintro ⟨_ | ⟨f, more⟩, h⟩ <;> simp only [searchAccepts, hfind, Option.some.injEq] at h
            · simp [h.1]
            · obtain ⟨rfl, -, h, -⟩ := h; simp [h] at hlow
        · next h8 hlow =>
          have hlow : lowAt line (x + bd / 2) = false := by simpa using hlow
          rw [step (x + bd / 2) (x + max 1 (bd / 2)) (by omega) (by omega) (by omega)
            (fun y h h' => by
              obtain rfl : y = x := by omega
              exact ⟨rfl, by omega, hlow⟩)]
          constructor
          · rintro ⟨fs, h⟩; exact ⟨x :: fs, hfind, by omega, hlow, h⟩
          · rintro ⟨_ | ⟨f, more⟩, h⟩ <;> simp only [searchAccepts, hfind, Option.some.injEq] at h
            · obtain ⟨rfl, -, h⟩ := h; simp [h] at hlow
            · obtain ⟨rfl, -, -, h⟩ := h; exact ⟨more, h⟩

/-- The start search of the model accepts exactly what R29 does. -/
theorem startSearch_eq_some_iff (line : DatLine) (bd e : Nat) :
    startSearch line bd (falls line) 0 = some e ↔ ∃ falseStarts, searchAccepts line bd 0 falseStarts e :=
  startSearch_iff line bd (falls line) [] 0 0 e rfl (by simp) (Nat.le_refl 0) (fun _ _ h => by omega)
end Sys2Proof.Machine
end

