-- ==== Sys2Proof/Laws/PerInstr.lean ====
section
/-! SUPPORT. Statements about every command, with one lemma for each constructor. `WellFormedBounds` says in propositions what the
check on a command's operands accepts. -/

namespace Sys2Proof.Laws

/-- The bounds a command's operands meet, in propositions (R25, R134, R148, §0.6.4). -/
def WellFormedBounds.Bounds : Instr → Prop
  | .rstAsserted _ => True
  | .rstNegated _ => True
  | .granuleRead bytes => bytes.length = 16
  | .loadCompletionSuccess _ _ => True
  | .loadCompletionFailure => True
  | .mark => True
  | .expiry => True
  | .frmPullEnd => True
  | .frmRisingEdge => True
  | .busFault => True
  | .selfStart => True
  | .claimWindowStart k => k < 16
  | .digestWindowStart k => k < 16
  | .messageSent => True
  | .collision bit => bit < 142
  | .windowSettle line => DatLine.rising line.toggles = true
  | .claimPhaseClose => True
  | .allocationComplete => True
  | .digestPhaseClose => True
  | .slotStart k => k < 32
  | .slotEnd k => k < 32
  | .patternEdge offset fine => offset < 32766 ∧ fine < 10
  | .triggerArrival _ _ _ => True
  | .transactionStart => True
  | .transactionEnd => True
  | .readStatus => True
  | .readEvent => True
  | .readPeers => True
  | .readTable => True
  | .readQueue => True
  | .readCounters => True
  | .clearCounters => True
  | .leave => True
  | .rejoin => True
  | .rejectedCode code => code ∉ portCodes
  | .leadInEnd => True
  | .commandCodeComplete _ => True
  | .responseByteShiftedOut => True

/-- The check accepts exactly the commands whose operands meet their bounds. -/
def WellFormedBounds.Statement (i : Instr) : Prop := i.wellFormed = true ↔ WellFormedBounds.Bounds i

theorem WellFormedBounds.rstAsserted (n : Nat) : WellFormedBounds.Statement (.rstAsserted n) := by
  simp [WellFormedBounds.Statement, WellFormedBounds.Bounds, Instr.wellFormed]

theorem WellFormedBounds.rstNegated (straps : BitVec 4) : WellFormedBounds.Statement (.rstNegated straps) := by
  simp [WellFormedBounds.Statement, WellFormedBounds.Bounds, Instr.wellFormed]

theorem WellFormedBounds.granuleRead (bytes : List Byte) : WellFormedBounds.Statement (.granuleRead bytes) := by
  simp [WellFormedBounds.Statement, WellFormedBounds.Bounds, Instr.wellFormed]

theorem WellFormedBounds.loadCompletionSuccess (a b : Bool) : WellFormedBounds.Statement (.loadCompletionSuccess a b) := by
  simp [WellFormedBounds.Statement, WellFormedBounds.Bounds, Instr.wellFormed]

theorem WellFormedBounds.loadCompletionFailure : WellFormedBounds.Statement .loadCompletionFailure := by
  simp [WellFormedBounds.Statement, WellFormedBounds.Bounds, Instr.wellFormed]

theorem WellFormedBounds.mark : WellFormedBounds.Statement .mark := by
  simp [WellFormedBounds.Statement, WellFormedBounds.Bounds, Instr.wellFormed]

theorem WellFormedBounds.expiry : WellFormedBounds.Statement .expiry := by
  simp [WellFormedBounds.Statement, WellFormedBounds.Bounds, Instr.wellFormed]

theorem WellFormedBounds.frmPullEnd : WellFormedBounds.Statement .frmPullEnd := by
  simp [WellFormedBounds.Statement, WellFormedBounds.Bounds, Instr.wellFormed]

theorem WellFormedBounds.frmRisingEdge : WellFormedBounds.Statement .frmRisingEdge := by
  simp [WellFormedBounds.Statement, WellFormedBounds.Bounds, Instr.wellFormed]

theorem WellFormedBounds.busFault : WellFormedBounds.Statement .busFault := by
  simp [WellFormedBounds.Statement, WellFormedBounds.Bounds, Instr.wellFormed]

theorem WellFormedBounds.selfStart : WellFormedBounds.Statement .selfStart := by
  simp [WellFormedBounds.Statement, WellFormedBounds.Bounds, Instr.wellFormed]

theorem WellFormedBounds.claimWindowStart (k : Nat) : WellFormedBounds.Statement (.claimWindowStart k) := by
  simp [WellFormedBounds.Statement, WellFormedBounds.Bounds, Instr.wellFormed]

theorem WellFormedBounds.digestWindowStart (k : Nat) : WellFormedBounds.Statement (.digestWindowStart k) := by
  simp [WellFormedBounds.Statement, WellFormedBounds.Bounds, Instr.wellFormed]

theorem WellFormedBounds.messageSent : WellFormedBounds.Statement .messageSent := by
  simp [WellFormedBounds.Statement, WellFormedBounds.Bounds, Instr.wellFormed]

theorem WellFormedBounds.collision (bit : Nat) : WellFormedBounds.Statement (.collision bit) := by
  simp [WellFormedBounds.Statement, WellFormedBounds.Bounds, Instr.wellFormed]

theorem WellFormedBounds.windowSettle (line : DatLine) : WellFormedBounds.Statement (.windowSettle line) := by
  simp [WellFormedBounds.Statement, WellFormedBounds.Bounds, Instr.wellFormed]

theorem WellFormedBounds.claimPhaseClose : WellFormedBounds.Statement .claimPhaseClose := by
  simp [WellFormedBounds.Statement, WellFormedBounds.Bounds, Instr.wellFormed]

theorem WellFormedBounds.allocationComplete : WellFormedBounds.Statement .allocationComplete := by
  simp [WellFormedBounds.Statement, WellFormedBounds.Bounds, Instr.wellFormed]

theorem WellFormedBounds.digestPhaseClose : WellFormedBounds.Statement .digestPhaseClose := by
  simp [WellFormedBounds.Statement, WellFormedBounds.Bounds, Instr.wellFormed]

theorem WellFormedBounds.slotStart (k : Nat) : WellFormedBounds.Statement (.slotStart k) := by
  simp [WellFormedBounds.Statement, WellFormedBounds.Bounds, Instr.wellFormed]

theorem WellFormedBounds.slotEnd (k : Nat) : WellFormedBounds.Statement (.slotEnd k) := by
  simp [WellFormedBounds.Statement, WellFormedBounds.Bounds, Instr.wellFormed]

theorem WellFormedBounds.patternEdge (offset fine : Nat) : WellFormedBounds.Statement (.patternEdge offset fine) := by
  simp [WellFormedBounds.Statement, WellFormedBounds.Bounds, Instr.wellFormed]

theorem WellFormedBounds.triggerArrival (i : TrgInput) (l h : Nat) : WellFormedBounds.Statement (.triggerArrival i l h) := by
  simp [WellFormedBounds.Statement, WellFormedBounds.Bounds, Instr.wellFormed]

theorem WellFormedBounds.transactionStart : WellFormedBounds.Statement .transactionStart := by
  simp [WellFormedBounds.Statement, WellFormedBounds.Bounds, Instr.wellFormed]

theorem WellFormedBounds.transactionEnd : WellFormedBounds.Statement .transactionEnd := by
  simp [WellFormedBounds.Statement, WellFormedBounds.Bounds, Instr.wellFormed]

theorem WellFormedBounds.readStatus : WellFormedBounds.Statement .readStatus := by
  simp [WellFormedBounds.Statement, WellFormedBounds.Bounds, Instr.wellFormed]

theorem WellFormedBounds.readEvent : WellFormedBounds.Statement .readEvent := by
  simp [WellFormedBounds.Statement, WellFormedBounds.Bounds, Instr.wellFormed]

theorem WellFormedBounds.readPeers : WellFormedBounds.Statement .readPeers := by
  simp [WellFormedBounds.Statement, WellFormedBounds.Bounds, Instr.wellFormed]

theorem WellFormedBounds.readTable : WellFormedBounds.Statement .readTable := by
  simp [WellFormedBounds.Statement, WellFormedBounds.Bounds, Instr.wellFormed]

theorem WellFormedBounds.readQueue : WellFormedBounds.Statement .readQueue := by
  simp [WellFormedBounds.Statement, WellFormedBounds.Bounds, Instr.wellFormed]

theorem WellFormedBounds.readCounters : WellFormedBounds.Statement .readCounters := by
  simp [WellFormedBounds.Statement, WellFormedBounds.Bounds, Instr.wellFormed]

theorem WellFormedBounds.clearCounters : WellFormedBounds.Statement .clearCounters := by
  simp [WellFormedBounds.Statement, WellFormedBounds.Bounds, Instr.wellFormed]

theorem WellFormedBounds.leave : WellFormedBounds.Statement .leave := by
  simp [WellFormedBounds.Statement, WellFormedBounds.Bounds, Instr.wellFormed]

theorem WellFormedBounds.rejoin : WellFormedBounds.Statement .rejoin := by
  simp [WellFormedBounds.Statement, WellFormedBounds.Bounds, Instr.wellFormed]

theorem WellFormedBounds.rejectedCode (code : Byte) : WellFormedBounds.Statement (.rejectedCode code) := by
  simp [WellFormedBounds.Statement, WellFormedBounds.Bounds, Instr.wellFormed]

theorem WellFormedBounds.leadInEnd : WellFormedBounds.Statement .leadInEnd := by
  simp [WellFormedBounds.Statement, WellFormedBounds.Bounds, Instr.wellFormed]

theorem WellFormedBounds.commandCodeComplete (c : PortCommand) : WellFormedBounds.Statement (.commandCodeComplete c) := by
  simp [WellFormedBounds.Statement, WellFormedBounds.Bounds, Instr.wellFormed]

theorem WellFormedBounds.responseByteShiftedOut : WellFormedBounds.Statement .responseByteShiftedOut := by
  simp [WellFormedBounds.Statement, WellFormedBounds.Bounds, Instr.wellFormed]

end Sys2Proof.Laws
end

