-- ==== Sys2Proof/Tests/Slice0.lean ====
section
/-! SUPPORT. Tests on small states: the well-formedness check, values worked out in the manual, and for each obligation with
hypotheses a state and operands that meet them. Expected values come from the manual's worked sequences, or by hand from its
rules; each test names its source. -/

namespace Sys2Proof.Tests

open Sys2Proof.Machine

set_option maxRecDepth 20000

/-! ### Well-formedness: each check refuses an ill-formed term -/

/-- R134: a granule of 15 bytes. -/
theorem test_granule_of_15_bytes_refused : (Instr.granuleRead (List.replicate 15 0)).wellFormed = false := by decide
/-- §0.6.4: window 16. -/
theorem test_claim_window_16_refused : (Instr.claimWindowStart 16).wellFormed = false := by decide
theorem test_digest_window_16_refused : (Instr.digestWindowStart 16).wellFormed = false := by decide
/-- R25: an own window has 2 + 140 bits. -/
theorem test_bit_142_refused : (Instr.collision 142).wellFormed = false := by decide
/-- Level changes rise strictly. -/
theorem test_line_with_equal_times_refused :
    (Instr.windowSettle { startLow := false, toggles := [5, 5] }).wellFormed = false := by decide
/-- §0.6.4: slot 32. -/
theorem test_slot_start_32_refused : (Instr.slotStart 32).wellFormed = false := by decide
theorem test_slot_end_32_refused : (Instr.slotEnd 32).wellFormed = false := by decide
/-- R115: offset 2·16383 and fine delay 10. -/
theorem test_edge_offset_32766_refused : (Instr.patternEdge 32766 0).wellFormed = false := by decide
theorem test_edge_fine_10_refused : (Instr.patternEdge 0 10).wellFormed = false := by decide
/-- R148: 20h is LEAVE. -/
theorem test_code_of_leave_is_not_rejected : (Instr.rejectedCode 0x20).wellFormed = false := by decide
/-- R148: 07h names nothing. -/
theorem test_code_07_is_rejected : (Instr.rejectedCode 0x07).wellFormed = true := by decide

/-- The table gives the rows no bits: no word spells a command. -/
theorem test_no_word_spells_a_command : decodeTableWord 0 0 = none ∧ decodeTableWord 16 0x1234 = none := by decide

/-! ### Values worked out in the manual -/

/-- §0.6.8: the two check functions on the digits 1 to 9 (the published check values of these polynomials). -/
theorem test_check_values :
    crc16 [0x31, 0x32, 0x33, 0x34, 0x35, 0x36, 0x37, 0x38, 0x39] = 0x29B1 ∧
    crc8 [0x31, 0x32, 0x33, 0x34, 0x35, 0x36, 0x37, 0x38, 0x39] = 0xF4 := by decide

/-- R135: granule 4 of copy 1 lies at 010040h, and its read sends 03h and that address. -/
theorem test_granule_address : bootCommand (granuleAddress 1 4) = [0x03, 0x01, 0x00, 0x40] := by decide

/-- §2.7.1: the announcement of station 3. -/
def announcementOf271 : Announcement :=
  { station := 3, group := 2, frame := 42, joining := false, leaving := false, held := false, fingerprint := 0xA7C3,
    heardMap := 7, claims := [{ cls := 0, priority := 3, span := 1, count := 1 }] }

/-- §2.7.1: its bytes 0 to 8, and 11 bytes in all. -/
theorem test_announcement_bytes :
    announcementOf271.encode.take 9 = [0x5A, 0x34, 0x2A, 0x01, 0xA7, 0xC3, 0x00, 0x07, 0x30] ∧
    announcementOf271.encode.length = 11 := by decide

/-- §2.7.3: byte 1 of P is 22h and of Q 26h; message bit 13 is the first in which they differ. -/
theorem test_first_difference_of_p_and_q :
    (messageBits [0x5A, 0x22]).take 13 = (messageBits [0x5A, 0x26]).take 13 ∧
    (messageBits [0x5A, 0x22]).getD 13 true = false ∧ (messageBits [0x5A, 0x26]).getD 13 false = true := by decide

/-- §9.7: the EXPOSED record of request 40. -/
theorem test_exposed_record_bytes :
    EventRecord.bytes { kind := .exposed, frame := 18, cls := some 0, request := some 40, slot := some 1,
                        channel := some 1 } = [0x01, 0x12, 0xFF, 0x00, 0x00, 0x28, 0x01, 0x01] := by decide

/-- §4.8.1: the admitted claims of frame 18. -/
def claimsOf481 : List ClaimEntry :=
  orderEntries (entriesOf 18 0 0 [{ cls := 0, priority := 2, span := 1, count := 2 }] ++
    entriesOf 18 1 1 [{ cls := 0, priority := 1, span := 2, count := 1 }] ++
    entriesOf 18 2 1 [{ cls := 1, priority := 2, span := 1, count := 3 }] ++
    entriesOf 18 3 2 [{ cls := 0, priority := 3, span := 1, count := 1 }])

/-- §4.8.1: the order st3, st2, st0, st1 and the rotation ranks 1, 0, 14, 15. -/
theorem test_order_and_ranks :
    claimsOf481.map (fun e => (e.station, e.rank)) = [(3, 1), (2, 0), (0, 14), (1, 15)] := by decide

/-- §5.2.1: the digest input of the table of §4.8.1. -/
theorem test_digest_input :
    digestInput [0, 1, 2, 3] 18 (allocate 8 2 claimsOf481).1 =
      [0x00, 0x0F, 0x12, 0x18, 0x12, 0x12, 0x00, 0x12, 0x00, 0x08, 0xFF, 0x09, 0xFF,
        0xFF, 0xFF, 0xFF, 0xFF, 0xFF, 0xFF] := by decide

/-- §4.8.2: with C = 1 and station 3 claiming 2, station 1's span-2 claim stays unmet. -/
theorem test_unmet_with_one_channel :
    ((allocate 8 1 (claimsOf481.map (fun e => if e.station = 3 then { e with count := 2 } else e))).2.map
      (fun e => (e.station, e.granted, e.unmet))) = [(3, 2, 0), (2, 3, 0), (0, 2, 0), (1, 0, 1)] := by decide

/-! ### The states of the witnesses: the reference configuration of §0.6.5 with D = 10 -/

/-- Station 1 of the tests: class 0 on TRGA with pattern 0, class 1 periodic with pattern 1 of span 2. -/
def settings : Settings :=
  { windows := 4, slots := 8, channels := 2, bitTu := 4, slotLen := 1000, gap := 256, tail := 64, divider := 10, group := 3
    classes := [{ source := .trga, pattern := 0, priority := 2, limit := 4, maxAge := 5 },
      { source := .periodic, pattern := 1, priority := 1, limit := 1, maxAge := 3 },
      { source := .none, pattern := 0, priority := 0, limit := 0, maxAge := 0 },
      { source := .none, pattern := 0, priority := 0, limit := 0, maxAge := 0 }]
    enableMask := 0x0F, idleMask := 0x04, invertMask := 0x02
    patterns := [{ span := 1, first := 0, count := 3 }, { span := 2, first := 3, count := 1 }] ++
      List.replicate 14 { span := 1, first := 0, count := 0 }
    edges := [{ offset := 0, fine := 0, output := 1, level := true }, { offset := 10, fine := 3, output := 0, level := true },
      { offset := 14, fine := 3, output := 7, level := false }, { offset := 1999, fine := 9, output := 0, level := true }] ++
      List.replicate 124 { offset := 0, fine := 0, output := 0, level := false }
    fingerprint := 0xA7C3 }

/-- §1.3: the reference configuration has L = 12,200, slot 0 from 4136, digest phase close at 4120. -/
theorem test_reference_instants :
    settings.frameLength = 12200 ∧ settings.claimStart 3 = 1944 ∧ settings.claimClose = 2584 ∧
    settings.digestStart 3 = 3800 ∧ settings.digestClose = 4120 ∧ settings.slotStartAt 0 = 4136 ∧
    settings.settleAt .claim 3 = 2580 ∧ settings.settleAt .digest 3 = 4116 := by decide

/-- Station 1, loaded, in a station state, with `emitted` phase events of a frame behind it and the frame timer at `value`. -/
def at_ (st : StationState) (emitted value : Nat) : State :=
  { State.reset with
    rstLow := false
    sid := 1
    cfg := some settings
    timer := { FrameTimer.reset with mode := .running, value := value, frame := 18, emitted := emitted }
    membership := { Membership.reset with station := st }
    alloc := Allocator.cleared settings
    engine := { PatternEngine.reset with mode := .idle, levels := 0x04 }
    loader := { ImageLoader.reset with state := .loaded, result := .success } }

/-- The Frame Timer changed. -/
def timed (s : State) (f : FrameTimer → FrameTimer) : State := { s with timer := f s.timer }

/-- The Membership Unit changed. -/
def joined (s : State) (f : Membership → Membership) : State := { s with membership := f s.membership }

/-- The port in a transaction, with LSEL low. -/
def porting (s : State) (p : PortState) : State := { s with port := { s.port with state := p, lselLow := true } }

/-- The loader of a station that is LOADING, RST negated. -/
def loading (l : ImageLoader) : State := { State.reset with rstLow := false, sid := 1, loader := l }

/-- The running exposure of §7.9.1: slot 1, channel 1, class 0, its first edge applied. -/
def running : RunningPattern :=
  { slot := 1, channel := 1, cls := 0, pattern := 0, span := 1, origin := 5136, next := 1, second := false }

/-- Its item, bound to request 40 as in §6.10.1. -/
def item : ExposureItem := { slot := 1, channel := 1, cls := 0, span := 1, request := some 40, running := true }

/-- A MEMBER in the frame of §4.8.1 with the verdict EXPOSE, own cells (1, ch1) and (2, ch1), and requests 40 and 41. -/
def voted (emitted value : Nat) : State :=
  { at_ .member emitted value with
    alloc := { Allocator.cleared settings with
      status := .complete, frame := 18, view := [1]
      table := ((emptyTable 8 2).fill 1 1 { station := 1, cls := 0, part := 0 }).fill 2 1
        { station := 1, cls := 0, part := 0 } }
    agree := { Agreement.reset with ownDigest := some 0x1234, verdict := .expose }
    demand := { DemandQueue.reset with
      nextRequest := 42
      entries := [{ request := 40, cls := 0, age := 1, bound := some (1, 1) },
        { request := 41, cls := 0, age := 1, bound := some (2, 1) }]
      exposures := [{ item with running := false }, { item with slot := 2, request := some 41, running := false }] } }

/-- The same MEMBER with its first exposure running. -/
def exposing (emitted value : Nat) : State :=
  { voted emitted value with
    engine := { PatternEngine.reset with mode := .running running, levels := 0x06 }
    demand := { (voted emitted value).demand with
      exposures := [item, { item with slot := 2, request := some 41, running := false }] } }

/-! ### Witnesses: for each obligation with hypotheses, states and operands that meet them, clause by clause -/

theorem witness_IdleStepIsOneRefclk :
    let s := at_ .member 0 100
    let u := timed s (fun t => { t with prescaler := 9, frmLow := true })
    let v := timed (at_ .listening 0 0) (fun t => { t with mode := .faulted, frmLow := true, prescaler := 9 })
    let d := timed s (fun t => { t with frmLow := true, markLow := 65 })
    let l := loading { ImageLoader.reset with state := .headers, boot := some (0, 0) }
    (∀ x ∈ [s, u, v, d], x.pending = [] ∧ x.cfg = some settings ∧ x.timer.mode ≠ .stopped) ∧
    (s.timer.prescaler + 1 < settings.divider ∧ settings.divider ≤ u.timer.prescaler + 1 ∧
      settings.divider ≤ v.timer.prescaler + 1 ∧ v.timer.mode = .faulted ∧ v.station = .listening) ∧
    (∃ t, step (timed (at_ .joining 11 5135) (fun t => { t with prescaler := 9 })) = .next t ∧
      t.pending[0]? = some (.slotEnd 0) ∧ t.pending[1]? = some (.slotStart 1)) ∧
    (∃ t, step s = .next t ∧ ¬ t.busFaultDue) ∧ (∃ t, step d = .next t ∧ t.busFaultDue) ∧
    (l.pending = [] ∧ l.cfg = none ∧ l.loader.boot ≠ none ∧ l.loader.bootPause = 0) ∧
    (State.reset.pending = [] ∧ State.reset.cfg = none ∧ State.reset.loader.boot = none) := by
  refine ⟨by decide, by decide, ⟨_, rfl, by decide⟩, ⟨_, rfl, ?_⟩, ⟨_, rfl, ?_⟩, by decide, by decide⟩ <;>
    unfold State.busFaultDue <;> decide

theorem witness_ResetPin :
    State.reset.rstLow = true ∧ (at_ .member 0 0).rstLow = false ∧ (2 : Nat) ≤ 2 ∧ (1 : Nat) < 2 := by decide

/-- R12: a mark at 12,150, in the tail, with the expiry to come; one at 664 with claim window 1 start. -/
theorem witness_MarkBeginsFrame :
    let s := at_ .joining 5 100
    (s.cfg = some settings ∧ s.timer.frmLow = false ∧ s.timer.mode.monitors = true ∧ s.station ≠ .listening) ∧
    (settings.schedule[26]? = some (12200, .expiry) ∧ (at_ .member 26 12150).timer.emitted ≤ 26 ∧
      settings.frameLength - settings.tail ≤ (at_ .member 26 12150).timer.value) ∧
    (settings.schedule[1]? = some (664, .claimWindowStart 1) ∧ (at_ .member 1 664).timer.emitted ≤ 1 ∧
      (at_ .member 1 664).timer.value = 664 ∧ (at_ .member 1 664).timer.mode = .running) := by decide

/-- R9: 12,135 is a runt and 12,136 is not. -/
theorem witness_RuntIsCountedAndRecorded :
    (at_ .member 25 12135).runtDue settings ∧ (at_ .member 26 12136).normalDue settings ∧
    (timed (at_ .listening 0 0) (fun t => { t with mode := .searching })).timer.mode = .searching ∧
    (at_ .member 25 12135).timer.frmLow = false ∧ (at_ .member 26 12136).timer.frmLow = false := by
  unfold State.runtDue State.normalDue; decide

/-- A queue of `n` records. -/
def queued (n : Nat) (s : State) : State :=
  { s with events := { s.events with records := List.replicate n { kind := .left, frame := 3 } } }

/-- R155: the states of the runt with 30, 31 and 32 records, and what the queue holds after it. -/
theorem witness_RuntIsCountedAndRecorded_room :
    (∀ n ∈ [30, 31, 32], (queued n (at_ .member 25 12135)).runtDue settings ∧
      (queued n (at_ .member 25 12135)).events.records.length = n) ∧
    (∀ n ∈ [30, 31, 32], (match exec .mark (queued n (at_ .member 25 12135)) with
      | .next t => (t.events.records.length, t.events.overflow, (t.events.records.getLast?.map (·.kind)) == some .runt)
      | _ => (0, false, false)) = (min (n + 1) 32, decide (n = 32), decide (n < 32))) := by
  unfold State.runtDue; decide

theorem witness_NormalMarkAtMember :
    ((at_ .member 26 12136).normalDue settings ∧ (at_ .member 26 12136).engine.mode = .idle ∧
      (at_ .member 26 12136).station = .member) ∧
    ((exposing 13 12136).normalDue settings ∧ (exposing 13 12136).station = .member ∧
      (exposing 13 12136).engine.mode = .running running ∧
      (exposing 13 12136).demand.itemAt running.slot running.channel = some item) := by
  unfold State.normalDue; decide

theorem witness_RuntAbortsExposure :
    ((exposing 13 5500).runtDue settings ∧ (exposing 13 5500).station = .member ∧
      (exposing 13 5500).engine.mode = .running running ∧
      (exposing 13 5500).demand.exposures.find? (·.running) = some item ∧ (exposing 13 5500).timer.frmLow = false) ∧
    ((voted 12 5100).runtDue settings ∧ (voted 12 5100).station = .member ∧ (voted 12 5100).engine.mode = .idle ∧
      (voted 12 5100).timer.frmLow = false ∧ ∀ it ∈ (voted 12 5100).demand.exposures, it.running = false) := by
  unfold State.runtDue; decide

theorem witness_MarkMovesTheStation :
    let o : State := joined (at_ .listening 26 12136) (fun m => { m with observation := .observing, listenRef := some 7 })
    (o.normalDue settings ∧ o.station = .listening ∧ o.membership.observation = .observing) ∧
    ((at_ .listening 26 12136).membership.observation = .unaligned ∧ (at_ .listening 26 12136).timer.frmLow = false) ∧
    ((at_ .leaving 26 12136).station = .leaving ∧ (at_ .leaving 26 12136).timer.mode.monitors = true) ∧
    (∀ st ∈ [StationState.joining, .member, .offline, .isolated],
      (at_ st 3 700).cfg = some settings ∧ (at_ st 3 700).timer.frmLow = false ∧ (at_ st 3 700).timer.mode.monitors = true ∧
      (at_ st 3 700).station = st ∧ st ≠ .listening ∧ st ≠ .leaving ∧ (at_ st 3 700).membership.heardMap = 0 ∧
      ∀ k, (at_ st 3 700).peer k = PeerEntry.cleared) := by
  refine ⟨by unfold State.normalDue; decide, by decide, by decide, ?_⟩
  have clear : ∀ st k, (at_ st 3 700).peer k = PeerEntry.cleared := by
    intro st k
    show (List.replicate 16 PeerEntry.cleared).getD k PeerEntry.cleared = _
    simp only [List.getD_eq_getElem?_getD, List.getElem?_replicate]
    split <;> rfl
  intro st h
  refine ⟨rfl, rfl, rfl, rfl, ?_, ?_, rfl, clear st⟩ <;> rintro rfl <;> simp at h

theorem witness_Expiry :
    ((at_ .leaving 26 12200).awaits settings settings.placeExpiry ∧ (at_ .leaving 26 12200).station = .leaving) ∧
    ((at_ .offline 26 12150).awaits settings settings.placeExpiry ∧ (at_ .offline 26 12150).station = .offline ∧
      (at_ .offline 26 12150).timer.frmLow = false ∧ (at_ .offline 26 12150).timer.lapsed = []) := by
  unfold State.awaits; decide

theorem witness_FrmIsReleasedAndRises :
    let p := timed (at_ .member 0 8) (fun t => { t with frmLow := true, ownPull := true })
    let r := timed (at_ .member 0 0) (fun t => { t with mode := .faulted, frmLow := true })
    (p.cfg = some settings ∧ p.timer.ownPull = true ∧ p.timer.value ≤ 8 ∧ p.timer.frmLow = true) ∧
    (r.timer.frmLow = true ∧ r.timer.ownPull = false ∧ r.timer.silence < 2 * settings.frameLength ∧
      r.timer.mode = .faulted) := by decide

/-- R18: the silence timer at its bound 2L = 24,400. -/
theorem witness_SelfStart :
    let s := at_ .listening 0 0
    let u := timed s (fun t => { t with mode := .searching, frmLow := true, silence := 24400 })
    let v := timed s (fun t => { t with mode := .faulted, frmLow := true, silence := 24000 })
    (∀ x ∈ [s, u, v], x.cfg = some settings ∧ x.station = .listening ∧ x.timer.mode ≠ .stopped) ∧
    (s.timer.frmLow = false ∧ s.timer.mode.monitors = true) ∧
    (u.timer.frmLow = true ∧ u.timer.ownPull = false ∧ u.timer.silence = 2 * settings.frameLength) ∧
    (v.timer.frmLow = true ∧ v.timer.mode = .faulted ∧ v.timer.silence ≤ 2 * settings.frameLength) := by decide

/-- A MEMBER with two entries, one whose exposure runs, a LEAVING station and a LISTENING one. -/
theorem witness_BusFault :
    let low : State → State := fun s => timed s (fun t => { t with frmLow := true, markLow := 64 })
    (∀ s ∈ [low (voted 3 65), low (exposing 13 65), low (at_ .leaving 3 65), low (at_ .listening 3 65)],
      s.cfg = some settings ∧ s.timer.mode.monitors = true ∧ s.timer.frmLow = true ∧ s.timer.ownPull = false) ∧
    ((low (voted 3 65)).station = .member ∧ (low (voted 3 65)).demand.entries.length = 2 ∧
      ∀ it ∈ (low (voted 3 65)).demand.exposures, it.running = false) ∧
    ((low (exposing 13 65)).station = .member ∧ (low (exposing 13 65)).demand.exposures.find? (·.running) = some item) := by
  decide

theorem witness_ClaimWindowWithoutClaims :
    ((at_ .member 3 1944).awaits settings 3 ∧ 3 < settings.windows ∧ 3 ≠ (at_ .member 3 1944).me ∧
      (at_ .member 3 1944).timer.value ≤ 24 + 160 * settings.bitTu * 3) ∧
    ((at_ .joining 1 664).awaits settings (at_ .joining 1 664).me ∧ (at_ .joining 1 664).me < settings.windows ∧
      (at_ .joining 1 664).station = .joining) ∧
    ((at_ .offline 1 664).awaits settings (at_ .offline 1 664).me ∧ (at_ .offline 1 664).station = .offline) := by
  unfold State.awaits; decide

theorem witness_OwnClaimsAreFormed :
    (at_ .member 1 664).awaits settings (at_ .member 1 664).me ∧ (at_ .member 1 664).me < settings.windows ∧
    (at_ .member 1 664).station = .member ∧ (at_ .member 1 664).membership.leavePending = false := by
  unfold State.awaits; decide

/-- R105: two PENDING entries of class 0 and the periodic class 1 give two claims. -/
theorem test_claims_of_two_entries :
    claimsOf settings [{ request := 1, cls := 0, age := 0, bound := none }, { request := 2, cls := 0, age := 0, bound := none }] =
      [{ cls := 0, priority := 2, span := 1, count := 2 }, { cls := 1, priority := 1, span := 2, count := 1 }] := by decide

theorem witness_LeavePendingBecomesLeaving :
    let s := joined (at_ .member 1 664) (fun m => { m with leavePending := true })
    s.awaits settings s.me ∧ s.me < settings.windows ∧ s.station = .member ∧ s.membership.leavePending = true ∧
    ∀ it ∈ s.demand.exposures, it.running = false := by
  unfold State.awaits; decide

theorem witness_DigestWindowOpens :
    let s := { at_ .member 6 3160 with agree := { Agreement.reset with ownDigest := some 5 } }
    let u := at_ .member 5 2840
    (s.awaits settings (settings.windows + 1 + 1) ∧ 1 < settings.windows ∧ 1 = s.me ∧ s.station = .member ∧
      s.agree.ownDigest.isSome = true ∧
      s.timer.value ≤ 24 + 160 * settings.windows * settings.bitTu + settings.gap + 80 * settings.bitTu * 1) ∧
    (u.awaits settings (settings.windows + 1 + 0) ∧ 0 < settings.windows ∧ 0 ≠ u.me ∧
      u.timer.value ≤ 24 + 160 * settings.windows * settings.bitTu + settings.gap + 80 * settings.bitTu * 0) := by
  unfold State.awaits; decide

/-- A transmitter set. -/
def sending (s : State) (t : Transmitter) : State := { s with bus := { s.bus with tx := t } }

theorem witness_ContentIsFixedAtLeadInEnd :
    (∀ st ∈ [StationState.joining, .member, .leaving],
      (sending (at_ st 2 672) (.leadIn .claim st 18 7)).bus.tx = .leadIn .claim st 18 7 ∧
      (sending (at_ st 2 672) (.leadIn .claim st 18 7)).station = st) ∧
    (let s := sending (voted 7 3168) (.leadIn .digest .member 18 7)
     s.bus.tx = .leadIn .digest .member 18 7 ∧ s.station = .member ∧ s.agree.ownDigest = some 0x1234) := by decide

/-- §2.7.1 at station 1: a message of 11 bytes that begins 8 tu after 664 ends with the sample of bit 109. -/
theorem witness_MessageIsSent :
    let s := sending (at_ .member 2 672) (.sending .claim announcementOf271.encode)
    let sample := settings.windowStart .claim s.me + (1 + 10 * announcementOf271.encode.length) * settings.bitTu +
      settings.bitTu * settings.divider / 2 / settings.divider
    s.cfg = some settings ∧ s.bus.tx = .sending .claim announcementOf271.encode ∧ s.timer.mode = .running ∧
    s.timer.value < sample ∧ sample ≤ settings.frameLength ∧ sample = 1110 := by decide

/-- The two bits of §2.7.3: message bit 13 of Q is released, bit 10, a start bit, is not. -/
theorem witness_CollisionEndsTransmission :
    (messageBits [0x5A, 0x26])[13]? = some true ∧ (messageBits [0x5A, 0x26])[10]? = some false ∧
    (sending (at_ .joining 2 672) (.sending .claim [0x5A, 0x26])).bus.tx = .sending .claim [0x5A, 0x26] ∧
    (sending (at_ .joining 2 672) (.leadIn .claim .joining 18 7)).bus.tx = .leadIn .claim .joining 18 7 ∧ (1 : Nat) < 2 := by
  decide

/-- R155: a collision with 31 records in the queue, and with 32. -/
theorem witness_CollisionEndsTransmission_room :
    let s := sending (at_ .joining 2 672) (.leadIn .claim .joining 18 7)
    (queued 31 s).bus.tx = .leadIn .claim .joining 18 7 ∧ (queued 31 s).events.records.length < 32 ∧
    (queued 32 s).bus.tx = .leadIn .claim .joining 18 7 ∧ 32 ≤ (queued 32 s).events.records.length := by decide

/-- A window open in the receiver. -/
def inWindow (s : State) (kind : WindowKind) (k : Nat) : State := { s with bus := { s.bus with window := some (kind, k) } }

/-- The start edges of the first `n` bytes of a message sent without gaps, in bits of 40 REFCLK periods (R25, R30). -/
def starts (n : Nat) : List Nat := (List.range n).map (fun i => 80 + 400 * i)

/-- A line with further level changes. -/
def DatLine.and (line : DatLine) (more : List Nat) : DatLine := { line with toggles := line.toggles ++ more }

/-- A line of `n` start bits alone, 439 REFCLK periods apart, the first at 300. -/
def slow (n : Nat) : DatLine :=
  { startLow := false, toggles := (List.range n).flatMap (fun i => [300 + 439 * i, 340 + 439 * i]) }

/-- A line with a false start: DAT low from 10 to 15, before everything else. -/
def afterFalseStart (line : DatLine) : DatLine := { line with toggles := [10, 15] ++ line.toggles }

/-- `searchAccepts` in bits of 40 REFCLK periods, as a test. -/
def searchHold (line : DatLine) : Nat → List Nat → Nat → Bool
  | t, [], e => (falls line).find? (fun x => decide (t ≤ x)) == some e && decide (e + 20 ≤ 320) && lowAt line (e + 20)
  | t, f :: more, e =>
    (falls line).find? (fun x => decide (t ≤ x)) == some f && decide (f + 20 ≤ 320) && !lowAt line (f + 20) &&
      searchHold line (f + 20) more e

theorem searchAccepts_of_hold (line : DatLine) (e : Nat) (fs : List Nat) :
    ∀ t, searchHold line t fs e = true → searchAccepts line 40 t fs e := by
  induction fs with
  | nil =>
    intro t h
    simp only [searchHold, Bool.and_eq_true, decide_eq_true_eq, beq_iff_eq] at h
    exact ⟨h.1.1, h.1.2, h.2⟩
  | cons f more ih =>
    intro t h
    simp only [searchHold, Bool.and_eq_true, Bool.not_eq_true', decide_eq_true_eq, beq_iff_eq] at h
    exact ⟨h.1.1.1, h.1.1.2, h.1.2, ih _ h.2⟩

/-- `startEdges` in bits of 40 REFCLK periods, as a test. -/
def followHold (line : DatLine) (settle : Nat) : Nat → List Nat → Bool
  | _, [] => true
  | e, e' :: rest =>
    lowAt line (e + 20) && !lowAt line (e + 380) && decide (e + 380 < settle) &&
      firstFall line (e + 380) (e + 440) == some e' && followHold line settle e' rest

/-- The start edges `e :: rest` after the false starts `fs`. -/
def startEdgesHold (line : DatLine) (settle : Nat) (fs : List Nat) (e : Nat) (rest : List Nat) : Bool :=
  searchHold line 0 fs e && followHold line settle e rest

theorem follow_of_hold (line : DatLine) (settle : Nat) (rest : List Nat) :
    ∀ e, followHold line settle e rest = true → startEdges.follow line 40 settle e rest := by
  induction rest with
  | nil => exact fun _ _ => trivial
  | cons e' rest ih =>
    intro e h
    simp only [followHold, Bool.and_eq_true, Bool.not_eq_true', decide_eq_true_eq, beq_iff_eq] at h
    exact ⟨⟨h.1.1.1.1, h.1.1.1.2, h.1.1.2⟩, h.1.2, ih e' h.2⟩

theorem startEdges_of_hold (line : DatLine) (settle : Nat) (fs : List Nat) (e : Nat) (rest : List Nat)
    (h : startEdgesHold line settle fs e rest = true) : startEdges line 40 settle (e :: rest) := by
  simp only [startEdgesHold, Bool.and_eq_true] at h
  exact ⟨⟨fs, searchAccepts_of_hold line e fs 0 h.1⟩, follow_of_hold line settle rest e h.2⟩

/-- The states of the windows: another station's, the own with its outcome, and the own of a station that sends nothing in it, which in
the digest window is also a LEAVING one that is DONE with its announcement. -/
theorem witness_OtherWindowsSettle :
    let left := inWindow (sending (at_ .leaving 7 3300) (.done .claim .sent)) .digest 1
    let d : DigestMessage := { station := 1, frame := 19, digest := 7 }
    (left.cfg = some settings ∧ left.bus.window = some (.digest, left.me) ∧ d.station = left.me ∧ left.station = .leaving ∧
      left.bus.tx = .done .claim .sent ∧ left.bus.digestRecords.length = 16 ∧ left.bus.claimRecords.length = 16 ∧
      d.frame ≠ left.timer.frame ∧ { d with frame := 18 }.frame = left.timer.frame) ∧
    let s := inWindow (at_ .member 4 2000) .claim 3
    let own := inWindow (sending (at_ .member 2 1200) (.done .claim .sent)) .claim 1
    let none_ := inWindow (at_ .member 7 3300) .digest 1
    let quiet := inWindow (at_ .listening 2 1200) .claim 1
    let a : Announcement := { announcementOf271 with station := 1 }
    (own.cfg = some settings ∧ own.bus.window = some (.claim, own.me) ∧ own.bus.tx = .done .claim .sent) ∧
    (none_.bus.window = some (.digest, none_.me) ∧ none_.station = .member ∧ none_.bus.tx = .idle) ∧
    (s.cfg = some settings ∧ s.bus.window = some (.claim, 3) ∧ 3 ≠ s.me ∧ s.bus.claimRecords.length = 16 ∧
      s.bus.digestRecords.length = 16) ∧
    (quiet.cfg = some settings ∧ quiet.bus.window = some (.claim, quiet.me) ∧ a.station = quiet.me ∧
      quiet.station.announces = false ∧ quiet.bus.tx = .idle ∧ a.inRange = true ∧ a.flagsLegal ∧
      2 ≤ settings.bitTu * settings.divider ∧ quiet.bus.claimRecords.length = 16 ∧ a.fingerprint = settings.fingerprint ∧
      { a with fingerprint := 5 }.fingerprint ≠ settings.fingerprint) ∧
    settings.bitTu * settings.divider = 40 ∧ (falls lineReleased = []) := by
  unfold Announcement.flagsLegal; decide

/-- R30, R32: lines that meet the premises of each clause: a start bit that reads 1, a stop bit that reads 0, the settle point
before the last byte, no next start, a claim count of 5, an edge after the last byte, the wrong owner, two flags. -/
theorem witness_OtherWindowsSettle_lines :
    let digest : List Byte := DigestMessage.encode { station := 2, frame := 18, digest := 0x1234 }
    let flags : List Byte := [0x5A, 0x30, 18, 0xC0, 0, 0, 0, 0, 0, 0]
    let one := lineOfBytes 40 [0x5A]
    let five := lineOfBytes 40 [0x5A, 0x30, 18, 0x05]
    let late := DatLine.and (lineOfBytes 40 digest) [2900, 2940]
    let last : Nat := 300 + 439 * 6
    (startEdges (DatLine.and one [480, 485]) 40 6360 (starts 2) ∧ lowAt (DatLine.and one [480, 485]) (480 + 20) = false) ∧
    (startEdges { startLow := false, toggles := [80] } 40 6360 [80] ∧
      lowAt { startLow := false, toggles := [80] } (80 + 380) = true) ∧
    (startEdges (slow 7) 40 3160 ((List.range 6).map (fun i => 300 + 439 * i) ++ [last]) ∧ 3160 ≤ last + 380) ∧
    (startEdges one 40 6360 [80] ∧ firstFall one 460 520 = none) ∧
    (startEdges five 40 6360 (starts 3 ++ [1280]) ∧
      5 ≤ (byteAt ((starts 3 ++ [1280]).map (sampledByte five 40)) 3).toNat % 8) ∧
    (startEdges late 40 3160 (starts 6 ++ [2480]) ∧ firstFall late 2860 3160 ≠ none ∧
      (starts 6 ++ [2480]).map (sampledByte late 40) = digest) ∧
    (startEdges (lineOfBytes 40 digest) 40 3160 (starts 6 ++ [2480]) ∧ digest.length = 7 ∧ (byteAt digest 1).toNat / 16 ≠ 3) ∧
    (startEdges (lineOfBytes 40 flags) 40 6360 (starts 9 ++ [3680]) ∧ messageIs .claim flags flags.length ∧
      (starts 9 ++ [3680]).map (sampledByte (lineOfBytes 40 flags) 40) = flags) := by
  have h : ∀ (line : DatLine) (settle e : Nat) (rest : List Nat),
      startEdgesHold line settle [] e rest = true → startEdges line 40 settle (e :: rest) :=
    fun line settle => startEdges_of_hold line settle []
  exact ⟨⟨h _ _ _ _ (by decide), by decide⟩, ⟨h _ _ _ _ (by decide), by decide⟩, ⟨h _ _ _ _ (by decide), by decide⟩,
    ⟨h _ _ _ _ (by decide), by decide⟩, ⟨h _ _ _ _ (by decide), by decide⟩,
    ⟨h _ _ _ _ (by decide), by decide, by decide⟩, ⟨h _ _ _ _ (by decide), by decide, by decide⟩,
    h _ _ _ _ (by decide), ⟨by decide, by decide⟩, by decide⟩

/-- R29: after a false start at 10, whose sample at 30 reads 1, the message is received: whole in the claim and the digest window of
station 3, and damaged by its missing second byte. On the last line the edge at 14 is not looked at, and that at 32 is false too. -/
theorem witness_OtherWindowsSettle_falseStart :
    let digest : List Byte := DigestMessage.encode { station := 3, frame := 18, digest := 0x1234 }
    let claim : List Byte := Announcement.encode { announcementOf271 with station := 3 }
    let one := afterFalseStart (lineOfBytes 40 [0x5A])
    carries (afterFalseStart (lineOfBytes 40 digest)) 40 3160 digest ∧
    carries (afterFalseStart (lineOfBytes 40 claim)) 40 6360 claim ∧
    (startEdges one 40 6360 [80] ∧ firstFall one 460 520 = none) ∧
    (let line : DatLine := { startLow := false, toggles := [10, 12, 14, 20, 32, 36] }
     lowAt line (14 + 20) = true ∧ ∀ fs e, ¬ searchAccepts line 40 0 fs e) := by
  refine ⟨⟨starts 6, 2480, startEdges_of_hold _ _ [10] _ _ ?_, ?_, ?_, ?_⟩,
    ⟨starts 10, 4080, startEdges_of_hold _ _ [10] _ _ ?_, ?_, ?_, ?_⟩,
    ⟨startEdges_of_hold _ _ [10] _ _ ?_, by decide⟩, by decide, ?_⟩
  on_goal 10 =>
    intro fs e h
    simpa using (startSearch_eq_some_iff _ 40 e).mpr ⟨fs, h⟩ |>.symm.trans
      (show startSearch { startLow := false, toggles := [10, 12, 14, 20, 32, 36] } 40 _ 0 = none by decide)
  all_goals first | decide | (unfold byteWhole; decide)

theorem witness_PeerAnnouncementIsReceived :
    let s := inWindow (at_ .member 4 2000) .claim 3
    s.cfg = some settings ∧ s.bus.window = some (.claim, announcementOf271.station) ∧
    announcementOf271.station ≠ s.me ∧ announcementOf271.inRange = true ∧ announcementOf271.flagsLegal ∧
    2 ≤ settings.bitTu * settings.divider ∧ s.bus.claimRecords.length = 16 ∧ s.membership.peers.length = 16 ∧
    announcementOf271.fingerprint = settings.fingerprint ∧
    { announcementOf271 with fingerprint := 0xA7C4 }.fingerprint ≠ settings.fingerprint := by
  unfold Announcement.flagsLegal; decide

theorem witness_PeerDigestIsStored :
    let s := inWindow (at_ .member 8 3500) .digest 2
    let d : DigestMessage := { station := 2, frame := 18, digest := 0x1234 }
    s.cfg = some settings ∧ s.bus.window = some (.digest, d.station) ∧ d.station < 16 ∧ d.station ≠ s.me ∧
    2 ≤ settings.bitTu * settings.divider ∧ s.bus.digestRecords.length = 16 ∧ s.agree.store.length = 16 := by decide

/-- The shortest and the longest announcement, and a digest message; bits of two REFCLK periods. -/
theorem witness_ReceiverReadsTransmitter :
    let short : List Byte := [0x5A, 0, 0, 0, 0, 0, 0, 0, 0, 0]
    let long : List Byte := [0x5A, 0, 0, 4, 0, 0, 0, 0, 0, 0, 0, 0, 0, 0]
    (short.length = 10 + (byteAt short 3).toNat % 8 ∧ short.length ≤ 14) ∧
    (long.length = 10 + (byteAt long 3).toNat % 8 ∧ long.length ≤ 14) ∧
    (List.replicate 7 (0x3C : Byte)).length = 7 ∧ (2 : Nat) ≤ 2 := by decide

/-- R21, R25: a state of the transmitter with the frame timer value in bit 2 + 11 of own claim window 1, which begins at 664; in the
lead-in; and one that is not SENDING. The levels are those of 5Ah, 26h (R22). -/
theorem witness_ReceiverReadsTransmitter_pin :
    let s : Nat → State := fun v => sending (at_ .joining 2 v) (.sending .claim [0x5A, 0x26])
    ((s 717).cfg = some settings ∧ (s 717).bus.tx = .sending .claim [0x5A, 0x26] ∧ 1 ≤ settings.bitTu ∧
      24 + 160 * settings.bitTu * (s 717).me + 13 * settings.bitTu ≤ (s 717).timer.value ∧
      (s 717).timer.value < 24 + 160 * settings.bitTu * (s 717).me + (13 + 1) * settings.bitTu ∧
      (s 717).timer.prescaler < settings.divider) ∧
    (List.range 23).map (fun n => (s (664 + 4 * n)).datPulled) =
      [false, false, true, true, false, true, false, false, true, false, true, false,
        true, true, false, false, true, true, false, true, true, false, false] ∧
    (∀ kind bytes, (at_ .joining 2 717).bus.tx ≠ .sending kind bytes) := by
  exact ⟨by decide, by decide, fun _ _ h => nomatch h⟩

theorem witness_MessagesRoundTrip :
    announcementOf271.inRange = true ∧ { announcementOf271 with station := 15, group := 7 }.inRange = true ∧
    (15 : Nat) < 16 ∧ (0xFE : Byte).getLsbD 0 = false := by decide

/-! #### The start-up image -/

/-- Data bytes filled with zeros to 15. -/
def padded (bytes : List Byte) : List Byte := bytes ++ List.replicate (15 - bytes.length) 0

/-- The header of §8.3.1 of an image of 8 granules with serial 0213h, and a granule with its CRC-8. -/
def headerBytes : List Byte := padded [0x4B, 0x57, 0x01, 0x02, 0x13, 0x08, 0x01, 0x02, 0x04]
def granule (data : List Byte) : List Byte := data ++ [crc8 data]

/-- A merged image with the shared section of the reference configuration, class 0 on TRGA with pattern 0 of one edge. -/
def image : List MergedGranule :=
  [headerBytes, padded [0x04, 0x08, 0x02, 0x04, 0x03, 0xE8, 0x01, 0x00, 0x00, 0x40],
    padded [0x0A, 0x03, 0x01, 0x00, 0x02, 0x04, 0x05], padded [0, 0, 0, 0, 0, 0, 0, 0x0F, 0x04, 0x02],
    padded [1, 0, 1, 1, 0, 0, 1, 0, 0, 1, 0, 0, 1, 0, 0], padded [1, 0, 0, 1, 0, 0, 1, 0, 0, 1, 0, 0, 1, 0, 0],
    padded [1, 0, 0, 1, 0, 0, 1, 0, 0, 1, 0, 0, 1, 0, 0], padded [1, 0, 0, 0x03, 0xE7, 9, 15]].map
    (fun d => { data := d, copy := 0 })

/-- R141–R144: the image passes for station 1 and not for station 4; its settings are those of its bytes. -/
theorem test_image_passes :
    checkingFailure image 1 = none ∧ checkingFailure image 4 = some .stationRange ∧
    (settingsOf image).frameLength = 12200 ∧ (settingsOf image).divider = 10 ∧
    (settingsOf image).patternEdges 0 = [{ offset := 999, fine := 9, output := 7, level := true }] := by decide

theorem witness_AcceptedImageInRange : checkingFailure image 1 = none := by decide

/-- A header as read, its check passing. -/
def read (data : List Byte) : HeaderRead := { data := data, passes := true }

theorem witness_HeadersAreReadAndChosen :
    let s := loading { ImageLoader.reset with state := .headers, boot := some (0, 0) }
    let u := loading { ImageLoader.reset with state := .headers, boot := some (1, 0), header0 := some (read headerBytes) }
    let bad := padded [0x4B, 0x58]
    let untested := padded [0x4B, 0x57, 0x02]
    let short := padded [0x4B, 0x57, 0x01, 0x02, 0x13, 0x07, 0x01, 0x02, 0x03]
    (s.loader.state = .headers ∧ s.loader.boot = some (0, 0)) ∧
    (u.loader.state = .headers ∧ u.loader.boot = some (1, 0) ∧ u.loader.failing = none ∧
      u.loader.header0 = some { data := (granule headerBytes).take 15,
                                passes := crc8 ((granule headerBytes).take 15) == byteAt (granule headerBytes) 15 }) ∧
    (∀ d ∈ [headerBytes, bad, untested, short], (granule d).length = 16 ∧ crc8 ((granule d).take 15) = byteAt (granule d) 15) ∧
    (byteAt headerBytes 0 = 0x4B ∧ byteAt headerBytes 1 = 0x57 ∧ byteAt headerBytes 2 = 0x01 ∧
      (∀ i ∈ [9, 10, 11, 12, 13, 14], byteAt headerBytes i = 0x00) ∧ 8 ≤ (byteAt headerBytes 5).toNat ∧
      byteAt headerBytes 6 = 1 ∧ byteAt headerBytes 7 = 2 ∧
      (byteAt headerBytes 8).toNat + 4 = (byteAt headerBytes 5).toNat) ∧
    byteAt bad 1 ≠ 0x57 ∧ (byteAt untested 1 = 0x57 ∧ byteAt untested 2 ≠ 0x01) ∧
    (byteAt short 2 = 0x01 ∧ ¬ 8 ≤ (byteAt short 5).toNat) := by decide

theorem witness_MergeGranule :
    let l := { ImageLoader.reset with
      state := .merging, chosen := some 0, boot := some (0, 7), granules := image.take 7 }
    let f := { l with fallback := some 1 }
    let g := { f with boot := some (1, 7) }
    (∀ x ∈ [l, f, g], x.state = .merging ∧ x.chosen = some 0 ∧ x.failing = none ∧ x.granules ≠ [] ∧
      (byteAt ((x.granules.map (·.data)).getD 0 []) 5).toNat = 7 + 1) ∧
    (l.fallback = none ∧ f.fallback = some 1 ∧ g.boot = some (1, 7)) ∧
    (let d := granule (padded [1, 0, 0, 0x03, 0xE7, 9, 15])
     d.length = 16 ∧ crc8 (d.take 15) = byteAt d 15) ∧
    crc8 ((List.replicate 16 (0xFF : Byte)).take 15) ≠ byteAt (List.replicate 16 (0xFF : Byte)) 15 := by decide

theorem witness_LoadSucceeds :
    let s := loading { ImageLoader.reset with state := .checking, chosen := some 0, granules := image }
    (s.station = .loading ∧ s.loader.state = .checking ∧ s.loader.failing = none) ∧ imageAccepted image 1 ∧ s.sid = 1 := by
  refine ⟨by decide, ⟨?_, by decide, ?_, ?_⟩, by decide⟩
  · unfold imageParams; decide
  · unfold imageClass; decide
  · unfold imagePatterns; decide

/-- R141–R143: a B of 1; station 4 of 4; a priority of 4; a fine delay of 10. -/
theorem witness_LoadFails :
    let s := loading { ImageLoader.reset with state := .merging, failing := some (.granule 5) }
    let u := { loading { ImageLoader.reset with state := .checking, granules := image } with sid := 4 }
    let params := image.set 1 { data := padded [0x04, 0x08, 0x02, 0x01, 0x03, 0xE8, 0x01, 0x00, 0x00, 0x40], copy := 0 }
    let classes := image.set 2 { data := padded [0x0A, 0x03, 0x01, 0x00, 0x04, 0x04, 0x05], copy := 0 }
    let patterns := image.set 7 { data := padded [1, 0, 0, 0x03, 0xE7, 10, 15], copy := 0 }
    s.loader.failing = some (.granule 5) ∧ (u.loader.failing = none ∧ u.loader.state = .checking) ∧
    ¬ imageParams params ∧ (imageParams image ∧ imageWindows image ≤ (4 : BitVec 4).toNat) ∧
    (imageParams classes ∧ (1 : BitVec 4).toNat < imageWindows classes ∧ ¬ ∀ i, i < 4 → imageClass classes i) ∧
    (imageParams patterns ∧ (1 : BitVec 4).toNat < imageWindows patterns ∧ (∀ i, i < 4 → imageClass patterns i) ∧
      ¬ imagePatterns patterns) := by
  refine ⟨by decide, by decide, ?_, ⟨?_, by decide⟩, ⟨?_, by decide, ?_⟩, ?_, by decide, ?_, ?_⟩
  · unfold imageParams; decide
  · unfold imageParams; decide
  · unfold imageParams; decide
  · unfold imageClass; decide
  · unfold imageParams; decide
  · unfold imageClass; decide
  · unfold imagePatterns; decide

theorem witness_PhaseEventTable : settings.inRange := by unfold Settings.inRange; decide

/-! #### Claim phase close -/

/-- An announcement of a MEMBER peer without claims. -/
def plain (k : Nat) (frame : Byte) : Announcement :=
  { station := k, group := k, frame := frame, joining := false, leaving := false, held := false, fingerprint := 0xA7C3,
    heardMap := 0x000F, claims := [] }

/-- Claim window records at claim phase close. -/
def heard (s : State) (records : List (Nat × WindowRecord)) : State :=
  { s with bus := { s.bus with claimRecords := records.foldl (fun l p => l.set p.1 p.2) s.bus.claimRecords } }

/-- The record of an announcement. -/
def intact (k : Nat) (frame : Byte) (step : FrameStep) : Nat × WindowRecord :=
  (k, .intact step (.announcement (plain k frame)))

/-- Peer states set. -/
def peers (s : State) (l : List (Nat × PeerState)) : State :=
  joined s (fun m => { m with
    peers := l.foldl (fun ps p => ps.set p.1 { state := p.2, group := 0, heard := true }) m.peers })

/-- R45: every row of the table has a peer here; the station stays MEMBER, so the table is not cleared. -/
theorem witness_PeerUpdate :
    let s := peers (heard (at_ .member 4 2584) [(1, .own .sent), intact 0 18 .inStep, intact 2 18 .inStep])
      [(0, .joining2), (2, .missing1), (3, .missing2)]
    s.awaits settings settings.placeClaimClose ∧ s.station = .member ∧ s.heardFrom 0 ≠ none ∧ s.heardFrom 3 = none ∧
    (match exec .claimPhaseClose s with
      | .next t => t.station == .member && [0, 2, 3].map (fun k => (t.peer k).state) == [.member, .member, .absent]
      | _ => false) = true := by
  unfold State.awaits; decide

/-- R51: station 0, heard with frame number 9, is the reference sender; with no record there is none. -/
theorem witness_ReferenceFrameNumber :
    let s := heard (at_ .member 4 2584) [(1, .own .sent), intact 0 9 .outOfStep]
    let u := heard (at_ .member 4 2584) [intact 0 18 .inStep]
    (s.awaits settings settings.placeClaimClose ∧ s.station = .member ∧ s.ownClaimOutcome ≠ .collided ∧
      s.referenceIs 0 9 ∧ (9 : Byte) ≠ s.timer.frame) ∧
    (u.awaits settings settings.placeClaimClose ∧ u.referenceIs 0 18 ∧ (18 : Byte) = u.timer.frame) := by
  refine ⟨⟨by unfold State.awaits; decide, by decide, by decide, ⟨by decide, .inl ⟨?_, by omega⟩⟩, by decide⟩,
    by unfold State.awaits; decide, ⟨by decide, .inl ⟨?_, by omega⟩⟩, by decide⟩
  · exact ⟨.outOfStep, plain 0 9, by decide⟩
  · exact ⟨.inStep, plain 0 18, by decide⟩

/-- A station that hears nobody and sent nothing has no reference; so stands a LISTENING one. -/
theorem witness_ReferenceFrameNumber_none (st : StationState) (k : Nat) (f : Byte) :
    ¬ (at_ st 4 2584).referenceIs k f := by
  have hh : ∀ j, (at_ st 4 2584).heardFrom j = none := fun j => by
    have h : (List.replicate 16 WindowRecord.empty).getD j .empty = .empty := by
      rw [List.getD_eq_getElem?_getD, List.getElem?_replicate]; split <;> rfl
    show (match (List.replicate 16 WindowRecord.empty).getD j .empty with
      | .intact step (.announcement a) => some (step, a)
      | _ => none) = none
    rw [h]
  have ho : (at_ st 4 2584).ownClaimOutcome ≠ .sent := by cases st <;> decide
  rintro ⟨-, ⟨h, -⟩ | ⟨-, h, -⟩⟩ <;> revert h <;> simp [State.candidate1, State.candidate2, hh, ho]

theorem witness_ReferenceFrameNumber_listening :
    (at_ .listening 4 2584).awaits settings settings.placeClaimClose ∧ (at_ .listening 4 2584).station = .listening ∧
    (at_ .listening 4 2584).membership.foreignOnly < 3 := by
  unfold State.awaits; decide

/-- R59: a LISTENING and a JOINING station at count 3 in a frame that is not foreign-only stay below the limit. -/
theorem witness_foreignBelowLimit :
    let three : StationState → State := fun st =>
      joined (heard (at_ st 4 2584) [(1, .own .sent), intact 0 18 .inStep]) (fun m => { m with foreignOnly := 3, joiningSent := 2 })
    (three .listening).foreignBelowLimit ∧ (three .joining).foreignBelowLimit ∧
    (three .listening).awaits settings settings.placeClaimClose ∧ (three .joining).awaits settings settings.placeClaimClose ∧
    (three .listening).station = .listening ∧ (three .joining).station = .joining ∧
    (three .joining).ownClaimOutcome = .sent := by
  refine ⟨.inr ⟨by decide, fun h => ?_⟩, .inr ⟨by decide, fun h => ?_⟩, ?_⟩
  · exact absurd (h.2 0 (by decide) (by decide)) (by decide)
  · exact absurd (h.2 0 (by decide) (by decide)) (by decide)
  · unfold State.awaits; decide

theorem witness_Isolation :
    let own : TxOutcome → Nat × WindowRecord := fun o => (1, .own o)
    let s := joined (heard (at_ .member 4 2584) [own .collided]) (fun m => { m with streak := 1 })
    let u := joined (heard (at_ .listening 4 2584) [(2, .foreign)]) (fun m => { m with foreignOnly := 3 })
    let v := joined (heard (at_ .joining 4 2584) [own .sent, (2, .foreign)]) (fun m => { m with foreignOnly := 3 })
    let w := heard (at_ .joining 4 2584) [own .collided, (2, .foreign)]
    (∀ x ∈ [s, u, v, w, at_ .listening 4 2584, heard (at_ .member 4 2584) [own .collided], at_ .leaving 4 2584],
      x.awaits settings settings.placeClaimClose) ∧
    (s.station = .member ∧ s.ownClaimOutcome = .collided ∧ s.membership.streak = 1) ∧
    (∀ x ∈ [u, v, w], 2 ≠ x.me ∧ x.bus.claimRecords.getD 2 .empty = .foreign ∧ ∀ k, k < 16 → x.heardFrom k = none) ∧
    (u.station = .listening ∧ u.membership.foreignOnly = 3 ∧ v.station = .joining ∧ v.ownClaimOutcome ≠ .collided ∧
      v.membership.foreignOnly = 3) ∧
    (w.station = .joining ∧ w.ownClaimOutcome = .collided ∧ w.membership.streak = 0 ∧ w.membership.joiningFrames < 15 ∧
      w.membership.foreignOnly < 3) ∧
    ((heard (at_ .member 4 2584) [own .collided]).ownClaimOutcome = .collided ∧
      (at_ .leaving 4 2584).ownClaimOutcome ≠ .collided) ∧
    (∀ k, k < 16 → (at_ .listening 4 2584).bus.claimRecords.getD k .empty ≠ .foreign) := by
  unfold State.awaits; decide

/-- R58, R59 in JOINING without a collision: a foreign-only frame below the limit, and another frame at count 3. -/
theorem witness_Isolation_joining :
    let own : TxOutcome → Nat × WindowRecord := fun o => (1, .own o)
    let s := joined (heard (at_ .joining 4 2584) [own .sent, (2, .foreign)]) (fun m => { m with foreignOnly := 1, streak := 1 })
    let u := joined (heard (at_ .joining 4 2584) [own .sent]) (fun m => { m with foreignOnly := 3 })
    (∀ x ∈ [s, u], x.awaits settings settings.placeClaimClose ∧ x.station = .joining ∧ x.ownClaimOutcome = .sent) ∧
    (s.membership.foreignOnly < 3 ∧ s.bus.claimRecords.getD 2 .empty = .foreign ∧ ∀ k, k < 16 → s.heardFrom k = none) ∧
    (u.membership.foreignOnly = 3 ∧ ∀ k, k < 16 → u.bus.claimRecords.getD k .empty ≠ .foreign) := by
  unfold State.awaits; decide

/-- R53–R55: the third announcement SENT and heard by station 0; the sixteenth close with the count at 1, at 0 after a collision,
and with a MEMBER peer whose heard map lacks the own bit. -/
theorem witness_JoiningEnds :
    let own : TxOutcome → Nat × WindowRecord := fun o => (1, .own o)
    let deaf : Nat × WindowRecord := (0, .intact .inStep (.announcement { plain 0 18 with heardMap := 0 }))
    let s := joined (heard (at_ .joining 4 2584) [own .sent, intact 0 18 .inStep]) (fun m => { m with joiningSent := 2 })
    let u := joined (heard (at_ .joining 4 2584) [own .sent]) (fun m => { m with joiningFrames := 15 })
    let v := joined (heard (at_ .joining 4 2584) [own .collided]) (fun m => { m with joiningSent := 3, joiningFrames := 15 })
    let w := joined (peers (heard (at_ .joining 4 2584) [own .sent, deaf]) [(0, .member)])
      (fun m => { m with joiningSent := 3, joiningFrames := 15 })
    (∀ x ∈ [s, u, v, w], x.awaits settings settings.placeClaimClose ∧ x.station = .joining ∧
      x.membership.foreignOnly < 3 ∧ x.membership.streak = 0) ∧
    (s.ownClaimOutcome = .sent ∧ min (s.membership.joiningSent + 1) 3 = 3 ∧ s.membership.joiningFrames < 15 ∧
      ∀ k, k < 16 → (s.heardFrom k).all (fun p => p.2.heardMap.getLsbD s.me) = true) ∧
    (u.ownClaimOutcome = .sent ∧ min (u.membership.joiningSent + 1) 3 ≠ 3 ∧ u.membership.joiningFrames = 15) ∧
    (v.ownClaimOutcome = .collided ∧ v.membership.joiningFrames = 15) ∧
    (w.ownClaimOutcome = .sent ∧ min (w.membership.joiningSent + 1) 3 = 3 ∧ (w.peer 0).state = .member ∧
      w.heardFrom 0 = some (.inStep, { plain 0 18 with heardMap := 0 }) ∧ (0 : Half).getLsbD w.me = false) := by
  unfold State.awaits; decide

theorem witness_CloseOutsideTheRig :
    (at_ .isolated 4 2584).awaits settings settings.placeClaimClose ∧ (at_ .isolated 4 2584).station = .isolated ∧
    (at_ .isolated 4 2584).timer.value ≤ 24 + 160 * settings.windows * settings.bitTu := by
  unfold State.awaits; decide

/-- A MEMBER at claim phase close with two own claims, station 0 heard with one claim and MEMBER, station 2 heard out of step. -/
def closing (o : TxOutcome) : State :=
  let claim : Nat → Claim := fun cls => { cls := cls, priority := 2, span := 1, count := 1 }
  let s := peers (heard (at_ .member 4 2584)
    [(1, .own o), (0, .intact .inStep (.announcement { plain 0 18 with group := 5, claims := [claim 3] })),
      (2, .intact .outOfStep (.announcement { plain 2 18 with claims := [claim 0] }))])
    [(0, .member), (2, .member), (3, .missing1)]
  { s with demand := { s.demand with claimRecord := [claim 0, { claim 1 with priority := 1 }] } }

/-- SENT, and a first collision; a JOINING station that is admitted; an OFFLINE one. -/
theorem witness_RotationRank :
    let s := closing .sent
    let u := closing .collided
    let v := joined (heard (at_ .joining 4 2584) [(1, .own .sent), intact 0 18 .inStep]) (fun m => { m with joiningSent := 2 })
    (∀ x ∈ [s, u, v, at_ .offline 4 2584], x.awaits settings settings.placeClaimClose) ∧
    (s.station = .member ∧ s.ownClaimOutcome = .sent ∧ u.station = .member ∧ u.ownClaimOutcome = .collided ∧
      u.membership.streak = 0) ∧
    (match exec .claimPhaseClose v with
      | .next t => t.station == .member
      | _ => false) = true := by
  unfold State.awaits; decide

theorem witness_RotationRank_claims : (closing .sent).ClaimsInRange ∧ (closing .sent).demand.claimRecord.length ≤ 4 := by
  refine ⟨⟨?_, by decide, ?_, fun h => nomatch h⟩, by decide⟩
  · intro r hr step a e
    subst e
    have h : ∀ r ∈ (closing .sent).bus.claimRecords,
        (match r with | .intact _ (.announcement a) => a.inRange | _ => true) = true := by decide
    exact h _ hr
  · intro c h; cases h; decide

/-- R71–R76 in frame 18: station 0 (rank 14) and the own claims (rank 15) by priority, station 2 not; R46: stations 0, 1, 2 and the
MISSING 3. After a first collision the own claims are left out. -/
theorem test_claim_list_and_view :
    let list : State → List (Nat × Nat × Nat × Nat × Nat) := fun s =>
      match exec .claimPhaseClose s with
      | .next t => t.alloc.claimList.map (fun e => (e.station, e.group, e.cls, e.position, e.rank))
      | _ => []
    list (closing .sent) = [(0, 5, 3, 0, 14), (1, settings.group, 0, 0, 15), (1, settings.group, 1, 1, 15)] ∧
    list (closing .collided) = [(0, 5, 3, 0, 14)] ∧
    (match exec .claimPhaseClose (closing .sent) with
      | .next t => t.alloc.view
      | _ => []) = [0, 1, 2, 3] := by decide

/-! #### Allocation, vote, binding -/

/-- The claims of §4.8.1 are a claim list as formed, and no two agree in all keys. -/
theorem witness_AllocationKeepsTheLaw : claimListFormed claimsOf481 := by unfold claimListFormed; decide
theorem witness_GrantedPlusUnmetIsCount :
    claimListFormed claimsOf481 ∧ claimListFormed (claimsOf481.take 1) ∧ (claimsOf481.take 1).map (·.count) = [1] := by
  unfold claimListFormed; decide
theorem witness_PlacementOrderIsTotal :
    claimsOf481.Perm claimsOf481.reverse ∧ claimsOf481.Pairwise ClaimEntry.differs :=
  ⟨(List.reverse_perm _).symm, by unfold ClaimEntry.differs; decide⟩

theorem witness_AllocationCompletes :
    let s := { at_ .member 5 2600 with
      alloc := { Allocator.cleared settings with status := .building, claimList := claimsOf481, frame := 18, view := [0, 1] } }
    s.cfg = some settings ∧ s.timer.mode = .running ∧ s.alloc.status = .building ∧ s.station = .member := by decide

/-- A MEMBER before the vote, alone in its view. -/
def voting (s : State) (adoption : Option Nat) : State :=
  { s with
    agree := { Agreement.reset with ownDigest := some 0x1234, adoption := adoption }
    demand := { s.demand with
      exposures := [], entries := s.demand.entries.map (fun e => { e with bound := none }) } }

/-- R91, R92: alone it wins; with an adoption it does not. -/
theorem witness_Vote :
    let s := voting (voted 9 4120) none
    let u := voting (voted 9 4120) (some 0)
    (s.awaits settings settings.placeDigestClose ∧ s.station = .member ∧ s.agree.ownDigest = some 0x1234 ∧
      s.agree.adoption = none ∧ s.alloc.view.length < 2 * 1) ∧
    (u.awaits settings settings.placeDigestClose ∧ u.station = .member ∧ u.agree.ownDigest = some 0x1234 ∧
      u.agree.adoption ≠ none) ∧
    ((at_ .joining 9 4120).awaits settings settings.placeDigestClose ∧ (at_ .joining 9 4120).station ≠ .member ∧
      (at_ .joining 9 4120).timer.value ≤ 24 + 240 * settings.windows * settings.bitTu + settings.gap) := by
  unfold State.awaits; decide

theorem witness_BindingTakesTheOldest :
    let s := voting (voted 9 4120) none
    s.awaits settings settings.placeDigestClose ∧ s.station = .member ∧ s.agree.ownDigest = some 0x1234 ∧
    s.voteVerdict 0x1234 = .expose ∧ s.demand.exposures = [] ∧ s.ownPart0 settings = [(1, 1, 0), (2, 1, 0)] := by
  unfold State.awaits; decide

/-- The own part-0 cells of that table, as the statement asks for them. -/
theorem witness_BindingTakesTheOldest_own :
    let s := voting (voted 9 4120) none
    let own : List (Nat × Nat × Nat) := [(1, 1, 0), (2, 1, 0)]
    own.Pairwise (fun p q => p.1 < q.1) ∧
    ∀ k ch i, (k, ch, i) ∈ own ↔ k < settings.slots ∧ ∃ x, s.ownCellIs k ch x ∧ x.cls = i ∧ x.part = 0 := by
  intro s own
  have cells : ∀ k, k < settings.slots → s.ownCell k =
      if k = 1 ∨ k = 2 then some (1, { station := 1, cls := 0, part := 0 }) else none := by decide
  refine ⟨by decide, fun k ch i => ⟨fun h => ?_, ?_⟩⟩
  · simp only [own, List.mem_cons, List.not_mem_nil, or_false, Prod.mk.injEq] at h
    rcases h with ⟨rfl, rfl, rfl⟩ | ⟨rfl, rfl, rfl⟩ <;>
      exact ⟨by decide, _, (s.ownCell_eq_some _ _ _).mp (cells _ (by decide)), rfl, rfl⟩
  · rintro ⟨hk, x, hx, rfl, -⟩
    have h := (cells k hk).symm.trans ((s.ownCell_eq_some k ch x).mpr hx)
    split at h
    · cases h
      rename_i hk'
      rcases hk' with rfl | rfl <;> simp [own]
    · cases h

/-! #### Exposures -/

/-- R68, R120: slot 1 holds the own cell at channel 1; slot 0 holds none; a table that is BUILDING has none to show; slot 1 of a span-2
exposure that began in slot 0 holds a part-1 cell. -/
theorem witness_SlotStart_cells :
    let part1 : Cell := { station := 1, cls := 1, part := 1 }
    let two : Table := ((emptyTable 8 2).fill 0 0 { part1 with part := 0 }).fill 1 0 part1
    let u : State := { voted 12 5100 with alloc := { (voted 12 5100).alloc with table := two } }
    (voted 12 5100).ownCellIs 1 1 { station := 1, cls := 0, part := 0 } ∧
    (∀ ch x, (voted 10 4130).alloc.table.cell 0 ch = some x → x.station ≠ (voted 10 4130).me) ∧
    ({ voted 12 5100 with alloc := Allocator.cleared settings }).alloc.status ≠ .complete ∧
    (u.ownCellIs 1 0 part1 ∧ part1.part ≠ 0) := by
  refine ⟨(State.ownCell_eq_some _ _ _ _).mp (by decide), ?_, by decide, (State.ownCell_eq_some _ _ _ _).mp (by decide), by decide⟩
  exact ((State.ownCell_eq_none (voted 10 4130) 0).mp (by decide)).resolve_left (by decide)

/-- R117, R118: channel 1 is CHSEL0 alone. At rest DRV1 (idle 0, inverted) and DRV2 (idle 1) are high, DRV0 and DRV3 low, and DRV4, not
enabled, is high-impedance. -/
theorem test_pins_of_an_exposure :
    (match exec (.slotStart 1) (voted 12 5100) with
      | .next t => (t.chselPins, t.exposing)
      | _ => (none, none)) = (some (true, false), some true) ∧
    (match exec (.slotEnd 1) (exposing 13 5500) with
      | .next t => ((List.range 5).map t.drv, t.chselPins)
      | _ => ([], none)) = ([some false, some true, some true, some false, none], some (false, false)) := by decide

/-- R120, R126: the start at 5136, and the same right after an exposure that ended there; slot 0 has no own cell. -/
theorem witness_SlotStart :
    let s := voted 12 5100
    let u := { voted 12 5136 with engine := { PatternEngine.reset with mode := .idle, levels := 0x04, justEnded := true } }
    (∀ x ∈ [s, u], x.engine.mode = .idle ∧ x.agree.verdict = .expose ∧
      x.ownCell 1 = some (1, { station := 1, cls := 0, part := 0 }) ∧
      x.timer.value ≤ 40 + 240 * settings.windows * settings.bitTu + settings.gap + settings.slotLen * 1) ∧
    (s.awaits settings (settings.placeSlotStart 1) ∧ u.awaits settings (settings.placeSlotStart 1)) ∧
    (s.timer.value < 5136 ∧ u.timer.value = 5136 ∧ u.engine.justEnded = true ∧ (voted 12 5136).timer.value = 5136 ∧
      (voted 12 5136).engine.justEnded = false) ∧
    ((voted 10 4130).awaits settings (settings.placeSlotStart 0) ∧ (voted 10 4130).ownCell 0 = none ∧
      (voted 10 4130).timer.value ≤
        40 + 240 * settings.windows * settings.bitTu + settings.gap + settings.slotLen * 0) := by
  unfold State.awaits; decide

/-- R124, R125: the end of slot 1 ends the span-1 exposure; a span-2 exposure goes on. -/
theorem witness_SlotEnd :
    let s := exposing 13 5500
    let two : RunningPattern := { running with span := 2 }
    let u := { s with engine := { s.engine with mode := .running two } }
    (s.awaits settings (settings.placeSlotEnd 1) ∧ s.engine.mode = .running running ∧ running.slot + running.span = 1 + 1 ∧
      s.demand.itemAt running.slot running.channel = some item ∧
      s.timer.value < 40 + 240 * settings.windows * settings.bitTu + settings.gap + settings.slotLen * (1 + 1)) ∧
    (u.awaits settings (settings.placeSlotEnd 1) ∧ u.engine.mode = .running two ∧ two.slot = 1 ∧ two.span = 2 ∧
      (exposing 13 6136).timer.value = 6136 ∧ (exposing 13 6136).engine.gap = false) ∧
    ((at_ .listening 13 5500).awaits settings (settings.placeSlotEnd 1) ∧ (at_ .listening 13 5500).engine.mode = .idle) := by
  unfold State.awaits; decide

/-- §7.9.1: the edge at 10 tu and 3 tenths comes next, and the one after it at 14; and with two edges at that time (R123). -/
theorem witness_PatternEdge :
    let s := exposing 13 5140
    let e : Edge := { offset := 10, fine := 3, output := 0, level := true }
    let e' : Edge := { offset := 14, fine := 3, output := 7, level := false }
    let c := { settings with edges := settings.edges.set 2 { e with level := false } }
    (s.cfg = some settings ∧ s.engine.mode = .running running ∧ { s with cfg := some c }.cfg = some c) ∧
    ((settings.patternEdges running.pattern)[running.next]? = some e ∧ e.output < 8 ∧
      (settings.patternEdges running.pattern)[running.next + 1]? = some e' ∧ e.offset < e'.offset) ∧
    ((c.patternEdges running.pattern)[running.next]? = some e ∧
      (c.patternEdges running.pattern)[running.next + 1]? = some { e with level := false } ∧
      (c.patternEdges running.pattern)[running.next + 2]? = none) ∧
    (s.timer.mode = .running ∧ s.timer.value < running.origin + e.offset ∧
      running.origin + e.offset ≤ settings.frameLength) ∧
    (∀ x ∈ (settings.patternEdges running.pattern).drop running.next, ¬ (x.offset = 11 ∧ x.fine = 3)) := by decide

/-- R103, R161: D = 10 samples of each level on TRGA, which class 0 names; nine samples are none; no class names TRGB. -/
theorem witness_TriggerArrivals :
    let s := at_ .member 3 100
    let full := { s with demand := { s.demand with
      entries := List.replicate 12 { request := 1, cls := 0, age := 0, bound := none } } }
    (s.cfg = some settings ∧ s.demand.filterOf .trga = { high := false, run := 0 } ∧ settings.divider ≤ 10 ∧ ¬ settings.divider ≤ 9) ∧
    ((settings.classOf 0).source = .trga ∧ ∀ j, j < 4 → j ≠ 0 → (settings.classOf j).source ≠ .trga) ∧
    (∀ i, i < 4 → (settings.classOf i).source ≠ .trgb) ∧
    (∀ p ∈ [(false, 6), (true, 3)],
      let u := { s with demand := { s.demand with trga := { high := p.1, run := p.2 } } }
      u.cfg = some settings ∧ (u.demand.filterOf .trga).run < settings.divider) ∧ State.reset.cfg = none ∧
    (s.station = .member ∧ s.demand.entries.length < 12 ∧ full.station = .member ∧ full.demand.entries.length = 12) ∧
    ((at_ .leaving 3 100).station = .leaving ∧ (loading ImageLoader.reset).station = .loading) := by decide

/-- R161, D = 10: six high samples are no arrival, and six more in the next command make one; a low of three samples then is a glitch,
and the high after it no arrival. A low of ten, cut in two, is accepted. -/
theorem test_filter_across_commands :
    let pulse : Nat → Nat → State → State := fun l h s => match exec (.triggerArrival .trga l h) s with
      | .next t => t
      | _ => s
    let six := pulse 10 6 (at_ .member 3 100)
    let twelve := pulse 0 6 six
    (six.demand.entries.length, six.demand.trga) = (0, { high := false, run := 6 }) ∧
    (twelve.demand.entries.length, twelve.demand.trga) = (1, { high := true, run := 0 }) ∧
    (pulse 3 10 twelve).demand.entries.length = 1 ∧
    (pulse 6 10 (pulse 4 0 twelve)).demand.entries.length = 2 := by decide

/-! #### The local port -/

theorem witness_TransactionStarts :
    let s := at_ .member 0 0
    (s.port.lselLow = false ∧ s.rstLow = false ∧ s.port.state = .idle) ∧
    (State.reset.port.lselLow = false ∧ State.reset.rstLow = true) ∧ (porting s .code).port.lselLow = true := by decide

theorem witness_ReadsTakeSnapshots :
    let s := porting (at_ .member 0 0) .code
    let u := s.offer { kind := .left, frame := 18 }
    (s.port.state = .code ∧ s.events.records = [] ∧ s.agree.published.cells = none ∧ s.cfg = some settings) ∧
    (u.port.state = .code ∧ u.events.records = [{ kind := .left, frame := 18 }]) := by decide

theorem witness_QueueAndCountersAreRead :
    (porting (voted 13 5500) .code).port.state = .code ∧ (porting (voted 13 5500) .code).demand.entries.length = 2 := by decide

theorem witness_CodesAndTransfers :
    let r : Response := { kind := .event false, bytes := List.replicate 8 0xFF, shifted := 7 }
    (porting (at_ .member 0 0) .code).port.state = .code ∧
    (0x30 : Byte) ∉ ([0x01, 0x02, 0x03, 0x04, 0x05, 0x06, 0x10, 0x20, 0x21] : List Byte) ∧
    (porting (at_ .member 0 0) (.responding r)).port.state = .responding r ∧ r.bytes.length ≤ r.shifted + 1 := by decide

theorem witness_TransactionEnds :
    let s := at_ .member 0 0
    let responding : ResponseKind → Nat → State := fun kind n =>
      porting s (.responding { kind := kind, bytes := [], shifted := n })
    ((porting s .code).port.lselLow = true ∧ (porting s .code).port.state = .code) ∧
    (∀ p ∈ [(ResponseKind.status, 12), (.status, 11), (.event true, 8), (.event true, 7), (.peers, 0)],
      (responding p.1 p.2).port.lselLow = true ∧
      (responding p.1 p.2).port.state = .responding { kind := p.1, bytes := [], shifted := p.2 }) := by decide

theorem witness_CommandsAreTaken :
    let r : PortCommand → Response := fun c => { kind := .command c, bytes := [0xC3], shifted := 0 }
    (∀ c ∈ [PortCommand.clearCounters, .leave, .rejoin], ∀ st ∈ [StationState.member, .listening, .offline, .leaving],
      (porting (at_ st 0 0) (.responding (r c))).port.lselLow = true ∧
      (porting (at_ st 0 0) (.responding (r c))).port.state = .responding (r c) ∧
      (porting (at_ st 0 0) (.responding (r c))).station = st) ∧
    (joined (porting (at_ .member 0 0) (.responding (r .rejoin))) (fun m => { m with leavePending := true })).membership.leavePending
      = true := by decide

/-! ### Single steps -/

/-- The state after a command. -/
def after (i : Instr) (s : State) : State := match exec i s with
  | .next t => t
  | _ => s

/-- R12: a MEMBER takes an edge at L − 1; the expiry that comes with it gives no second mark. -/
theorem test_expiry_with_its_mark_is_not_a_second_mark :
    (after .mark (at_ .member 26 12199)).timer.frame = 19 ∧
    (after .expiry (after .mark (at_ .member 26 12199))).timer.frame = 19 ∧
    (after .expiry (after .mark (at_ .member 26 12199))).timer.ownPull = false := by decide

/-- R19: with the edge first, the silence timer stays 0 and there is no self-start. -/
theorem test_no_self_start_after_the_edge :
    (after .selfStart (after .mark (at_ .listening 0 0))).timer.silence = 0 ∧
    (after .selfStart (after .mark (at_ .listening 0 0))).timer.ownPull = false := by decide

/-- R21, R25: with B = 3 and D = 3 a bit is sampled floor(9/2) = 4 REFCLK periods after its start, 1 tu and 1 period; a one-byte
message in window 1, at 24 + 480, ends with bit 11 at 504 + 33. -/
theorem test_sample_within_a_tu :
    let s := { sending (at_ .member 2 512) (.sending .claim [0x5A]) with
      cfg := some { settings with bitTu := 3, divider := 3 } }
    (after .messageSent s).timer.value = 538 ∧ (after .messageSent s).timer.prescaler = 1 := by decide

/-- R24: a LEAVE taken in the lead-in leaves the heard map and the frame number of the announcement as they were. -/
theorem test_leave_in_the_lead_in :
    let s := sending (porting (joined (at_ .joining 2 666) (fun m => { m with heardMap := 0x000D }))
      (.responding { kind := .command .leave, bytes := [0xC3], shifted := 0 })) (.leadIn .claim .joining 18 0x000D)
    (after .leave s).station = .offline ∧
    (after .leadInEnd (after .leave s)).bus.tx = (after .leadInEnd s).bus.tx := by decide

/-- R126: three tenths of a tu of D = 10 after the boundary EXPOSING is asserted again. -/
theorem test_exposing_after_the_gap :
    let c := { settings with edges := settings.edges.set 1 { offset := 0, fine := 3, output := 0, level := true } }
    let s := { exposing 13 5136 with cfg := some c, engine := { (exposing 13 5136).engine with gap := true } }
    s.exposing = some false ∧ (after (.patternEdge 0 3) s).exposing = some true ∧
    (after (.patternEdge 0 3) s).timer.prescaler = 3 := by decide

/-- R134: BSEL is negated between the two headers, whatever the length of the pause, and BCLK and BDO are low. -/
theorem test_bsel_between_reads :
    let t := after (.granuleRead (granule headerBytes)) (loading { ImageLoader.reset with state := .headers, boot := some (0, 0) })
    t.loader.boot = some (1, 0) ∧ t.loader.bselAsserted = false ∧ t.loader.bclk = false ∧ t.loader.bdo = false := by
  simp [after, exec, execGranuleRead, loading, ImageLoader.granule, ImageLoader.pause, ImageLoader.bselAsserted,
    ImageLoader.bclk, ImageLoader.bdo]

/-- R134: the seventh bit of the command byte 03h is 1, in the second half of its BCLK period. -/
theorem test_boot_port_levels :
    let l := { ImageLoader.reset with state := .headers, boot := some (0, 0), bootClock := 26 }
    l.bselAsserted = true ∧ l.bclk = true ∧ l.bdo = true := by decide

/-- R147, R148: the levels 0010 0000 on LDI are LEAVE, 0000 0001 is READ STATUS and 1000 0000 is rejected. -/
theorem test_code_levels :
    codeEvent [false, false, true, false, false, false, false, false] = .commandCodeComplete .leave ∧
    codeEvent [false, false, false, false, false, false, false, true] = .readStatus ∧
    codeEvent [true, false, false, false, false, false, false, false] = .rejectedCode 0x80 := by decide

/-! #### The laws -/

/-- The exposing MEMBER meets every law, and a step from it (with no command waiting, one REFCLK period) goes on. -/
theorem witness_StepKeeps :
    (exposing 13 5500).Coherent ∧ (exposing 13 5500).BoundLaw ∧ (exposing 13 5500).ClaimsInRange ∧
      ∃ t, step (exposing 13 5500) = .next t := by
  refine ⟨⟨?_, ?_, ?_, ?_, ?_⟩, ⟨?_, ?_⟩, ⟨?_, by decide, ?_, fun h => nomatch h⟩, _, rfl⟩
  · unfold State.Sized; decide
  · unfold State.Loaded; decide
  · show Settings.inRange settings ∧ _
    exact ⟨witness_PhaseEventTable, by decide⟩
  · unfold State.Membered; decide
  · exact ⟨by decide, by decide, by decide, by decide, by decide, by decide, by decide, by decide, by decide, by decide,
      by decide, rfl, rfl, by decide, by decide⟩
  · intro e he k ch hb
    simp only [exposing, voted, List.mem_cons, List.not_mem_nil, or_false] at he
    rcases he with rfl | rfl <;> (cases hb; exact ⟨rfl, _, (State.ownCell_eq_some _ _ _ _).mp rfl, rfl, rfl⟩)
  · decide
  · intro r hr step a e
    subst e
    have h : ∀ r ∈ (exposing 13 5500).bus.claimRecords, r = .empty := by decide
    cases h _ hr
  · intro c h; cases h; decide

end Sys2Proof.Tests
end

section
/-! The claim list at claim phase close (O38). First the order of R75 and the list it makes of given entries, then what a station
contributes (R71–R74, R76), then what the Membership Unit's steps leave to the Allocator (R47, R70). -/

namespace Sys2Proof.Machine

/-! ### The order of the claim list (R75) -/

/-- The order of R75 as a proposition: priority highest first, then rank, class and position lowest first. -/
def ClaimEntry.ahead (a b : ClaimEntry) : Prop :=
  b.priority < a.priority ∨ (a.priority = b.priority ∧
    (a.rank < b.rank ∨ (a.rank = b.rank ∧ (a.cls < b.cls ∨ (a.cls = b.cls ∧ a.position < b.position)))))

theorem ClaimEntry.before_iff_ahead (a b : ClaimEntry) : a.before b = true ↔ a.ahead b := by
  unfold ClaimEntry.before ClaimEntry.ahead
  split
  · simp; omega
  · split
    · simp; omega
    · split <;> simp <;> omega

theorem ClaimEntry.ahead_trans {a b c : ClaimEntry} (h : a.ahead b) (h' : b.ahead c) : a.ahead c := by
  unfold ClaimEntry.ahead at *; omega

theorem ClaimEntry.ahead_of_differs {a b : ClaimEntry} (hd : a.differs b) (h : ¬ b.ahead a) : a.ahead b := by
  unfold ClaimEntry.ahead ClaimEntry.differs at *; omega

theorem insertEntry_perm (e : ClaimEntry) (l : List ClaimEntry) : (insertEntry e l).Perm (e :: l) := by
  induction l with
  | nil => exact .refl _
  | cons x xs ih =>
    unfold insertEntry
    split
    · exact (ih.cons x).trans (.swap e x xs)
    · exact .refl _

theorem orderEntries_perm (l : List ClaimEntry) : (orderEntries l).Perm l := by
  induction l with
  | nil => exact .refl _
  | cons e l ih => exact (insertEntry_perm e _).trans (ih.cons e)

theorem insertEntry_pairwise (e : ClaimEntry) (l : List ClaimEntry) (hd : ∀ x ∈ l, e.differs x)
    (hl : l.Pairwise ClaimEntry.ahead) : (insertEntry e l).Pairwise ClaimEntry.ahead := by
  induction l with
  | nil => simp [insertEntry]
  | cons x xs ih =>
    obtain ⟨hx, hxs⟩ := List.pairwise_cons.mp hl
    obtain ⟨hdx, hdxs⟩ := List.forall_mem_cons.mp hd
    unfold insertEntry
    split
    · next hb =>
      refine List.pairwise_cons.mpr ⟨fun y hy => ?_, ih hdxs hxs⟩
      rcases List.mem_cons.mp ((insertEntry_perm e xs).mem_iff.mp hy) with rfl | hy
      · exact (ClaimEntry.before_iff_ahead _ _).mp hb
      · exact hx y hy
    · next hb =>
      have he : e.ahead x := ClaimEntry.ahead_of_differs hdx (mt (ClaimEntry.before_iff_ahead _ _).mpr hb)
      exact List.pairwise_cons.mpr ⟨List.forall_mem_cons.mpr ⟨he, fun y hy => ClaimEntry.ahead_trans he (hx y hy)⟩, hl⟩

/-- Entries that differ pairwise in the keys of R75 stand strictly in its order. -/
theorem orderEntries_pairwise (l : List ClaimEntry) (hl : l.Pairwise ClaimEntry.differs) :
    (orderEntries l).Pairwise ClaimEntry.ahead := by
  induction l with
  | nil => exact .nil
  | cons e l ih =>
    obtain ⟨he, hl⟩ := List.pairwise_cons.mp hl
    exact insertEntry_pairwise e _ (fun x hx => he x ((orderEntries_perm l).mem_iff.mp hx)) (ih hl)

/-! ### The entries of one station's claims (R74, R76) -/

/-- The entry has the fields of the claim, nothing placed yet, and its station's rank under the frame number (R74, R76). -/
def ClaimEntry.stands (e : ClaimEntry) (frame : Byte) (x : Claim) : Prop :=
  e.cls = x.cls ∧ e.priority = x.priority ∧ e.span = x.span ∧ e.count = x.count ∧ e.granted = 0 ∧ e.unmet = 0 ∧
  (e.rank : Int) = ((e.station : Int) - ((frame.toNat % 16 : Nat) : Int)) % 16

theorem mem_entriesOf_iff_stands (frame : Byte) (station group : Nat) (claims : List Claim) (e : ClaimEntry) :
    e ∈ entriesOf frame station group claims ↔
      ∃ x, e.stands frame x ∧ e.station = station ∧ e.group = group ∧ claims[e.position]? = some x := by
  rw [mem_entriesOf]
  refine exists_congr fun x => ?_
  obtain ⟨st, g, cls, pr, sp, n, pos, rank, gr, un⟩ := e
  simp only [ClaimEntry.stands, ClaimEntry.mk.injEq, true_and]
  constructor
  · rintro ⟨hx, rfl, rfl, rfl, rfl, rfl, rfl, rfl, rfl, rfl⟩
    exact ⟨⟨rfl, rfl, rfl, rfl, rfl, rfl, rotationRank_eq frame st⟩, rfl, rfl, hx⟩
  · rintro ⟨⟨rfl, rfl, rfl, rfl, rfl, rfl, hr⟩, rfl, rfl, hx⟩
    have hrank : rank = rotationRank frame st := Int.ofNat_inj.mp (hr.trans (rotationRank_eq frame st).symm)
    exact ⟨hx, rfl, rfl, rfl, rfl, rfl, rfl, hrank, rfl, rfl⟩

theorem entriesOf_length (frame : Byte) (station group : Nat) (claims : List Claim) :
    (entriesOf frame station group claims).length = claims.length := by
  simp [entriesOf]

/-- Two claims of one station have different places. -/
theorem entriesOf_differs (frame : Byte) (station group : Nat) (claims : List Claim) :
    (entriesOf frame station group claims).Pairwise ClaimEntry.differs := by
  have hplaces : (claims.zipIdx.map Prod.snd).Pairwise (· < ·) := by
    simpa [List.zipIdx_map_snd] using List.pairwise_lt_range' (s := 0) (n := claims.length)
  refine List.pairwise_map.mpr ((List.pairwise_map.mp hplaces).imp fun hlt => ?_)
  exact .inr (.inr (.inr (Nat.ne_of_lt hlt)))

/-- In one frame no two stations have the same rank (R76). -/
theorem rotationRank_injective (frame : Byte) {i j : Nat} (hi : i < 16) (hj : j < 16)
    (h : rotationRank frame i = rotationRank frame j) : i = j := by
  unfold rotationRank at h; omega

/-! ### What a station contributes (R71–R73) -/

/-- The claims of station `k` are admitted, under `group`: its own when its window is SENT (R73), a peer's when its window was
INTACT and IN_STEP and its entry is MEMBER (R71), under the group of its entry (R72). -/
def State.admits (s : State) (c : Settings) (k group : Nat) (claims : List Claim) : Prop :=
  (k = s.me ∧ s.ownClaimOutcome = .sent ∧ group = c.group ∧ claims = s.demand.claimRecord) ∨
  (k ≠ s.me ∧ (s.peer k).state = .member ∧ group = (s.peer k).group ∧
    ∃ a, s.heardFrom k = some (.inStep, a) ∧ claims = a.claims)

/-- What station `k` brings into the claim list. -/
def State.stationEntries (s : State) (c : Settings) (k : Nat) : List ClaimEntry :=
  if k = s.me then s.ownEntries c else s.peerEntries k

theorem State.formClaimList_eq (s : State) (c : Settings) :
    s.formClaimList c = orderEntries ((List.range 16).flatMap (s.stationEntries c)) := rfl

/-- All a station can bring: the entries of its admitted claims, or nothing. -/
theorem State.stationEntries_cases (s : State) (c : Settings) (k : Nat) :
    (∃ g claims, s.admits c k g claims ∧ s.stationEntries c k = entriesOf s.timer.frame k g claims) ∨
    ((∀ g claims, ¬ s.admits c k g claims) ∧ s.stationEntries c k = []) := by
  unfold State.stationEntries State.admits
  by_cases hk : k = s.me
  · by_cases ho : s.ownClaimOutcome = .sent
    · exact .inl ⟨_, _, .inl ⟨hk, ho, rfl, rfl⟩, by simp [hk, State.ownEntries, ho]⟩
    · exact .inr ⟨by simp [hk, ho], by simp [hk, State.ownEntries, ho]⟩
  · rw [if_neg hk]
    unfold State.peerEntries
    split
    · next a ha =>
      by_cases hm : (s.peer k).state = .member
      · exact .inl ⟨_, _, .inr ⟨hk, hm, rfl, a, ha, rfl⟩, if_pos hm⟩
      · exact .inr ⟨by simp [hk, hm], if_neg hm⟩
    · next hn =>
      refine .inr ⟨?_, rfl⟩
      rintro g claims (⟨h, -⟩ | ⟨-, -, -, a, ha, -⟩)
      · exact hk h
      · exact hn a ha

/-- One group and one list of claims are admitted for a station. -/
theorem State.admits_unique {s : State} {c : Settings} {k g g' : Nat} {claims claims' : List Claim}
    (h : s.admits c k g claims) (h' : s.admits c k g' claims') : g = g' ∧ claims = claims' := by
  rcases h with ⟨hk, -, rfl, rfl⟩ | ⟨hk, -, rfl, a, ha, rfl⟩ <;>
    rcases h' with ⟨hk', -, rfl, rfl⟩ | ⟨hk', -, rfl, b, hb, rfl⟩
  · exact ⟨rfl, rfl⟩
  · exact absurd hk hk'
  · exact absurd hk' hk
  · cases ha.symm.trans hb
    exact ⟨rfl, rfl⟩

theorem State.mem_stationEntries (s : State) (c : Settings) (k : Nat) (e : ClaimEntry) :
    e ∈ s.stationEntries c k ↔ ∃ g claims, s.admits c k g claims ∧ e ∈ entriesOf s.timer.frame k g claims := by
  rcases s.stationEntries_cases c k with ⟨g, claims, ha, he⟩ | ⟨hn, he⟩
  · rw [he]
    constructor
    · exact fun h => ⟨g, claims, ha, h⟩
    · rintro ⟨g', claims', ha', h⟩
      obtain ⟨rfl, rfl⟩ := State.admits_unique ha ha'
      exact h
  · simp [he, hn]

theorem State.stationEntries_rank {s : State} {c : Settings} {k : Nat} {e : ClaimEntry}
    (h : e ∈ s.stationEntries c k) : e.rank = rotationRank s.timer.frame k := by
  obtain ⟨g, claims, -, he⟩ := (s.mem_stationEntries c k e).mp h
  obtain ⟨x, -, hx⟩ := (mem_entriesOf ..).mp he
  rw [hx]

theorem State.stationEntries_differs (s : State) (c : Settings) (k : Nat) :
    (s.stationEntries c k).Pairwise ClaimEntry.differs := by
  rcases s.stationEntries_cases c k with ⟨g, claims, -, he⟩ | ⟨-, he⟩ <;> rw [he]
  · exact entriesOf_differs ..
  · exact .nil

/-! ### The claim list -/

/-- The members of the claim list are the entries of the claims admitted. -/
theorem State.mem_formClaimList (s : State) (c : Settings) (e : ClaimEntry) :
    e ∈ s.formClaimList c ↔ e.station < 16 ∧ ∃ g claims x, s.admits c e.station g claims ∧
      e.stands s.timer.frame x ∧ e.group = g ∧ claims[e.position]? = some x := by
  rw [State.formClaimList_eq, (orderEntries_perm _).mem_iff, List.mem_flatMap]
  simp only [List.mem_range, State.mem_stationEntries, mem_entriesOf_iff_stands]
  constructor
  · rintro ⟨k, hk, g, claims, ha, x, hx, rfl, hg, hp⟩
    exact ⟨hk, g, claims, x, ha, hx, hg, hp⟩
  · rintro ⟨hk, g, claims, x, ha, hx, hg, hp⟩
    exact ⟨e.station, hk, g, claims, ha, x, hx, rfl, hg, hp⟩

/-- The claim list stands in the order of R75: entries of two stations differ in rank, those of one station in position. -/
theorem State.formClaimList_pairwise (s : State) (c : Settings) : (s.formClaimList c).Pairwise ClaimEntry.ahead := by
  refine orderEntries_pairwise _ (List.pairwise_flatMap.mpr ⟨fun k _ => s.stationEntries_differs c k, ?_⟩)
  refine List.pairwise_lt_range.imp_of_mem fun {i j} hi hj hlt e he e' he' => .inr (.inl fun hr => ?_)
  rw [State.stationEntries_rank he, State.stationEntries_rank he'] at hr
  exact Nat.ne_of_lt hlt
    (rotationRank_injective _ (List.mem_range.mp hi) (List.mem_range.mp hj) hr)

/-- From claims whose spans are 1 or 2 the claim list is one that R74 allows: a station's entries have one group. -/
theorem State.formClaimList_formed (s : State) (c : Settings)
    (hspan : ∀ k g claims, k < 16 → s.admits c k g claims → ∀ x ∈ claims, x.span = 1 ∨ x.span = 2) :
    claimListFormed (s.formClaimList c) := by
  constructor
  · intro e he
    obtain ⟨hk, g, claims, x, ha, ⟨-, -, hs, -, hg, hu, -⟩, -, hx⟩ := (s.mem_formClaimList c e).mp he
    exact ⟨hs ▸ hspan _ _ _ hk ha x (List.mem_of_getElem? hx), hg, hu⟩
  · intro e he e' he' hst
    obtain ⟨-, g, claims, x, ha, -, hg, -⟩ := (s.mem_formClaimList c e).mp he
    obtain ⟨-, g', claims', x', ha', -, hg', -⟩ := (s.mem_formClaimList c e').mp he'
    rw [hg, hg']
    exact (State.admits_unique ha (hst ▸ ha')).1

/-- Sixteen stations bring four claims each at most. -/
theorem State.formClaimList_length_le (s : State) (c : Settings)
    (hlen : ∀ k g claims, k < 16 → s.admits c k g claims → claims.length ≤ 4) : (s.formClaimList c).length ≤ 64 := by
  have hstation : ∀ k ∈ List.range 16, (s.stationEntries c k).length ≤ 4 := by
    intro k hk
    rcases s.stationEntries_cases c k with ⟨g, claims, ha, he⟩ | ⟨-, he⟩
    · rw [he, entriesOf_length]
      exact hlen k g claims (List.mem_range.mp hk) ha
    · simp [he]
  rw [State.formClaimList_eq, (orderEntries_perm _).length_eq, List.length_flatMap]
  simpa using List.sum_le_card_nsmul ((List.range 16).map fun k => (s.stationEntries c k).length) 4
    (by simpa using hstation)

/-! ### What the Membership Unit leaves to the Allocator (R47) -/

/-- The blocks that the steps of the close can change. -/
def closeBlocks : List Block := [.timer, .membership, .agree, .demand, .events, .counters, .draws]

/-- What each step of the close keeps: a station that announces in its state after the step did so before it, and the step left
its queue and its peer table alone. So it composes, and says of a MEMBER at the end that no step took it out of the rig. -/
def State.closeStep (s t : State) : Prop :=
  s.onlyChanges t closeBlocks ∧ (t.station.announces = true →
    s.station.announces = true ∧ t.demand = s.demand ∧ t.membership.peers = s.membership.peers)

theorem State.closeStep_refl (s : State) : s.closeStep s := ⟨s.onlyChanges_refl _, fun h => ⟨h, rfl, rfl⟩⟩

theorem State.closeStep_trans {s t u : State} (h : s.closeStep t) (h' : t.closeStep u) : s.closeStep u := by
  refine ⟨State.onlyChanges_trans h.1 h'.1, fun hu => ?_⟩
  obtain ⟨ht, hd', hp'⟩ := h'.2 hu
  obtain ⟨hs, hd, hp⟩ := h.2 ht
  exact ⟨hs, hd'.trans hd, hp'.trans hp⟩

/-- The Membership Unit in a new state and every other block as it was. -/
def State.setMembership (s : State) (m : Membership) : State := { s with membership := m }

theorem State.setMembership_frame (s : State) (m : Membership) : s.onlyChanges (s.setMembership m) [.membership] := by
  intro b hb; cases b <;> simp_all [Block.same, State.setMembership]

theorem State.closeStep_setMembership (s : State) (m : Membership) (hs : m.station = s.station)
    (hp : m.peers = s.membership.peers) : s.closeStep (s.setMembership m) :=
  ⟨State.onlyChanges_mono (s.setMembership_frame m) (by simp [closeBlocks]), fun h => ⟨hs ▸ h, rfl, hp⟩⟩

theorem State.closeStep_enterIsolated (s : State) (why : IsolationReason) : s.closeStep (s.enterIsolated why) :=
  ⟨s.enterIsolated_frame why, fun h : StationState.announces .isolated = true => by cases h⟩

theorem State.closeStep_enterListening (s : State) : s.closeStep s.enterListening :=
  ⟨State.onlyChanges_mono s.enterListening_frame (by simp [closeBlocks]),
    fun h : StationState.announces .listening = true => by cases h⟩

theorem State.closeStep_enterMember (s : State) (h : s.station = .joining) : s.closeStep s.enterMember :=
  ⟨State.onlyChanges_mono s.enterMember_frame (by simp [closeBlocks]), fun _ => ⟨by rw [h]; rfl, rfl, rfl⟩⟩

theorem State.closeStep_offer (s : State) (r : EventRecord) : s.closeStep (s.offer r) :=
  ⟨State.onlyChanges_mono (s.offer_frame r) (by simp [closeBlocks]), fun h => ⟨h, rfl, rfl⟩⟩

theorem State.updatePeers_frame (s : State) : s.onlyChanges s.updatePeers closeBlocks :=
  State.onlyChanges_trans (State.onlyChanges_mono (s.setMembership_frame _) (by simp [closeBlocks]))
    (State.onlyChanges_mono (State.offerAll_frame _ _) (by simp [closeBlocks]))

/-- All step 2 can do: the listening reference, or the frame number with its record, is taken over. -/
theorem State.applyReference_cases (s : State) :
    s.applyReference.1 = s ∨
    (∃ f, s.applyReference.1 = s.setMembership { s.membership with listenRef := f }) ∨
    ∃ f r, s.applyReference.1 = ({ s with timer := { s.timer with frame := f } } : State).offer r := by
  unfold State.applyReference
  split
  · split
    · exact .inr (.inl ⟨_, rfl⟩)
    · exact .inl rfl
  · split
    · split
      · exact .inl rfl
      · exact .inr (.inr ⟨_, _, rfl⟩)
    · exact .inl rfl

/-- All step 3 can do: nothing in a station that does not announce; else the new streak, and isolation where that is 2. -/
theorem State.checkDuplicate_cases (s : State) :
    (s.station.announces = false ∧ s.checkDuplicate = s) ∨
    ∃ n, n = nextStreak s.membership.streak s.ownClaimOutcome ∧
      ((n < 2 ∧ s.checkDuplicate = s.setMembership { s.membership with streak := n }) ∨
        (2 ≤ n ∧ s.checkDuplicate = (s.setMembership { s.membership with streak := n }).enterIsolated .duplicate)) := by
  unfold State.checkDuplicate
  split
  · refine .inr ⟨_, rfl, ?_⟩
    dsimp only
    split
    · exact .inr ⟨‹_›, rfl⟩
    · exact .inl ⟨by omega, rfl⟩
  · exact .inl ⟨by simp_all, rfl⟩

/-- All step 4 can do: nothing outside LISTENING and JOINING; else a new count, and maybe isolation. -/
theorem State.checkConfig_cases (s : State) :
    s.checkConfig = s ∨ ((s.station = .listening ∨ s.station = .joining) ∧
      ∃ n, s.checkConfig = s.setMembership { s.membership with foreignOnly := n } ∨
        s.checkConfig = (s.setMembership { s.membership with foreignOnly := n }).enterIsolated .config) := by
  unfold State.checkConfig
  split
  · refine .inr ⟨‹_›, ?_⟩
    generalize (if s.foreignOnlyFrame = true then s.membership.foreignOnly + 1 else 0) = n
    refine ⟨n, ?_⟩
    dsimp only
    split
    · exact .inr rfl
    · exact .inl rfl
  · exact .inl rfl

/-- All step 5 can do: nothing outside JOINING; else admission, the timeout, or the counts. -/
theorem State.checkJoining_cases (s : State) :
    s.checkJoining = s ∨ (s.station = .joining ∧ ∃ n,
      s.checkJoining = (s.setMembership { s.membership with joiningSent := n }).enterMember ∨
      (∃ r, s.checkJoining = ((s.setMembership { s.membership with joiningSent := n }).offer r).enterListening) ∨
      ∃ m, s.checkJoining = s.setMembership { s.membership with joiningSent := n, joiningFrames := m }) := by
  unfold State.checkJoining
  split
  · refine .inr ⟨‹_›, nextJoiningSent s.membership.joiningSent s.ownClaimOutcome, ?_⟩
    dsimp only
    split
    · exact .inl rfl
    · split
      · exact .inr (.inl ⟨_, rfl⟩)
      · exact .inr (.inr ⟨_, rfl⟩)
  · exact .inl rfl

theorem State.closeStep_applyReference (s : State) : s.closeStep s.applyReference.1 := by
  rcases s.applyReference_cases with h | ⟨f, h⟩ | ⟨f, r, h⟩ <;> rw [h]
  · exact s.closeStep_refl
  · exact s.closeStep_setMembership _ rfl rfl
  · refine ⟨fun b hb => ?_, fun h => ⟨h, rfl, rfl⟩⟩
    cases b <;> simp_all [Block.same, closeBlocks]

theorem State.closeStep_checkDuplicate (s : State) : s.closeStep s.checkDuplicate := by
  rcases s.checkDuplicate_cases with ⟨-, h⟩ | ⟨n, -, ⟨-, h⟩ | ⟨-, h⟩⟩ <;> rw [h]
  · exact s.closeStep_refl
  · exact s.closeStep_setMembership _ rfl rfl
  · refine State.closeStep_trans ?_ (State.closeStep_enterIsolated _ _)
    exact s.closeStep_setMembership _ rfl rfl

theorem State.closeStep_checkConfig (s : State) : s.closeStep s.checkConfig := by
  rcases s.checkConfig_cases with h | ⟨-, n, h | h⟩ <;> rw [h]
  · exact s.closeStep_refl
  · exact s.closeStep_setMembership _ rfl rfl
  · refine State.closeStep_trans ?_ (State.closeStep_enterIsolated _ _)
    exact s.closeStep_setMembership _ rfl rfl

theorem State.closeStep_checkJoining (s : State) : s.closeStep s.checkJoining := by
  rcases s.checkJoining_cases with h | ⟨hj, n, h | ⟨r, h⟩ | ⟨m, h⟩⟩ <;> rw [h]
  · exact s.closeStep_refl
  · refine State.closeStep_trans ?_ (State.closeStep_enterMember _ hj)
    exact s.closeStep_setMembership _ rfl rfl
  · refine State.closeStep_trans ?_ (State.closeStep_trans (State.closeStep_offer _ r) (State.closeStep_enterListening _))
    exact s.closeStep_setMembership _ rfl rfl
  · exact s.closeStep_setMembership _ rfl rfl

/-- The steps after the peer update, together. -/
theorem State.closeStep_afterUpdate (s : State) :
    s.closeStep s.applyReference.1.checkDuplicate.checkConfig.checkJoining :=
  State.closeStep_trans s.closeStep_applyReference (State.closeStep_trans (State.closeStep_checkDuplicate _)
    (State.closeStep_trans (State.closeStep_checkConfig _) (State.closeStep_checkJoining _)))

theorem State.membershipClose_frame (s : State) : s.onlyChanges s.membershipClose.1 closeBlocks := by
  unfold State.membershipClose
  split
  · exact State.onlyChanges_trans s.updatePeers_frame (State.closeStep_afterUpdate _).1
  · exact s.onlyChanges_refl _

/-- A station that is MEMBER after the close has the queue it had before, and the peer table of the peer update. -/
theorem State.membershipClose_of_member (s : State) (h : s.membershipClose.1.station = .member) :
    s.membershipClose.1.demand = s.demand ∧
    s.membershipClose.1.membership.peers = (List.range 16).map (fun k => (s.updatedPeer k).1) := by
  by_cases hk : s.station.keepsPeers = true
  · simp only [State.membershipClose, hk, if_true] at h ⊢
    obtain ⟨-, hd, hp⟩ := s.updatePeers.closeStep_afterUpdate.2 (by rw [h]; rfl)
    exact ⟨hd, hp⟩
  · simp only [State.membershipClose, hk] at h
    exact absurd (by rw [show s.station = .member from h]; rfl) hk

/-- Step 2 moves neither the station nor its streak. -/
theorem State.applyReference_keeps (s : State) : s.applyReference.1.station = s.station ∧
    s.applyReference.1.membership.streak = s.membership.streak := by
  rcases s.applyReference_cases with h | ⟨f, h⟩ | ⟨f, r, h⟩ <;> rw [h] <;> exact ⟨rfl, rfl⟩

theorem State.heardFrom_congr {s t : State} (h : t.bus = s.bus) (k : Nat) : t.heardFrom k = s.heardFrom k := by
  simp [State.heardFrom, h]

theorem State.ownClaimOutcome_congr {s t : State} (h : t.bus = s.bus) (hme : t.me = s.me) :
    t.ownClaimOutcome = s.ownClaimOutcome := by
  simp [State.ownClaimOutcome, h, hme]

theorem State.me_congr {s t : State} (h : s.onlyChanges t closeBlocks) : t.me = s.me :=
  congrArg BitVec.toNat (h .straps (by simp [closeBlocks])).2

theorem State.me_lt (s : State) : s.me < 16 := s.sid.isLt

theorem nextStreak_lt_two {n : Nat} {o : TxOutcome} (h : o ≠ .collided ∨ n = 0) : nextStreak n o < 2 := by
  cases o <;> simp_all [nextStreak]

theorem State.checkDuplicate_stays_member (s : State) (hm : s.station = .member)
    (ho : s.ownClaimOutcome ≠ .collided ∨ s.membership.streak = 0) : s.checkDuplicate.station = .member := by
  rcases s.checkDuplicate_cases with ⟨-, h⟩ | ⟨n, hn, ⟨-, h⟩ | ⟨hge, -⟩⟩
  · rw [h]; exact hm
  · rw [h]; exact hm
  · exact absurd (nextStreak_lt_two ho) (by omega)

theorem State.checkConfig_of_member (s : State) (hm : s.station = .member) : s.checkConfig = s :=
  s.checkConfig_cases.resolve_right fun ⟨h, _⟩ => by rw [hm] at h; simp at h

theorem State.checkJoining_of_member (s : State) (hm : s.station = .member) : s.checkJoining = s :=
  s.checkJoining_cases.resolve_right fun ⟨h, _⟩ => by rw [hm] at h; cases h

/-- A MEMBER stays MEMBER unless its announcement collides for the second time in a row (R58). -/
theorem State.membershipClose_stays_member (s : State) (hm : s.station = .member)
    (ho : s.ownClaimOutcome ≠ .collided ∨ s.membership.streak = 0) : s.membershipClose.1.station = .member := by
  obtain ⟨hst, hstreak⟩ := s.updatePeers.applyReference_keeps
  have hf : s.onlyChanges s.updatePeers.applyReference.1 closeBlocks :=
    State.onlyChanges_trans s.updatePeers_frame (State.closeStep_applyReference _).1
  have hout := State.ownClaimOutcome_congr (hf .bus (by simp [closeBlocks])) (State.me_congr hf)
  have hdup := State.checkDuplicate_stays_member s.updatePeers.applyReference.1 (hst.trans hm)
    (hout.symm ▸ ho.imp_right hstreak.trans)
  simp only [State.membershipClose, show s.station.keepsPeers = true by rw [hm]; rfl, if_true,
    State.checkConfig_of_member _ hdup, State.checkJoining_of_member _ hdup]
  exact hdup

/-! ### The close as the Allocator sees it (R70) -/

/-- A heard peer's entry takes the group it announced (R45, R72). -/
theorem State.updatedPeer_group {s : State} {k : Nat} {step : FrameStep} {a : Announcement} (hk : k ≠ s.me)
    (h : s.heardFrom k = some (step, a)) : (s.updatedPeer k).1.group = a.group := by
  simp [State.updatedPeer, hk, h]

/-- The fields of an announcement heard are in range where those of every record are. -/
theorem State.heardFrom_inRange {s : State} (h : s.ClaimsInRange) {k : Nat} {step : FrameStep} {a : Announcement}
    (ha : s.heardFrom k = some (step, a)) : a.inRange = true := by
  obtain ⟨hrec, -⟩ := h
  unfold State.heardFrom at ha
  split at ha
  · next st b hb =>
    cases ha
    refine hrec _ ?_ step a hb
    rw [List.getD_eq_getElem?_getD] at hb
    cases hg : s.bus.claimRecords[k]? with
    | none => rw [hg] at hb; cases hb
    | some r =>
      rw [List.getD_eq_getElem?_getD, hg]
      exact List.mem_of_getElem? hg
  · cases ha

theorem Claim.inRange_span {x : Claim} (h : x.inRange = true) : x.span = 1 ∨ x.span = 2 := by
  simp only [Claim.inRange, Bool.and_eq_true, decide_eq_true_eq] at h
  omega

theorem Announcement.inRange_claims {a : Announcement} (h : a.inRange = true) :
    a.claims.length ≤ 4 ∧ ∀ x ∈ a.claims, x.inRange = true := by
  simp only [Announcement.inRange, Bool.and_eq_true, decide_eq_true_eq, List.all_eq_true] at h
  exact ⟨h.1.2, h.2⟩

/-- What a MEMBER admits after the close, in terms of the state before it (R71 to R73). -/
theorem State.membershipClose_admits_iff (s : State) (c : Settings) (hm : s.membershipClose.1.station = .member)
    {k g : Nat} {claims : List Claim} (hk : k < 16) :
    s.membershipClose.1.admits c k g claims ↔
      (k = s.me ∧ s.ownClaimOutcome = .sent ∧ g = c.group ∧ claims = s.demand.claimRecord) ∨
      (k ≠ s.me ∧ (s.membershipClose.1.peer k).state = .member ∧
        ∃ a, s.heardFrom k = some (.inStep, a) ∧ g = a.group ∧ claims = a.claims) := by
  have hme := State.me_congr s.membershipClose_frame
  have hbus : s.membershipClose.1.bus = s.bus := s.membershipClose_frame .bus (by simp [closeBlocks])
  obtain ⟨hdemand, hpeers⟩ := s.membershipClose_of_member hm
  have hpeer : s.membershipClose.1.peer k = (s.updatedPeer k).1 := by simp [State.peer, hpeers, hk]
  unfold State.admits
  rw [hme, hdemand, State.ownClaimOutcome_congr hbus hme, State.heardFrom_congr hbus]
  refine or_congr_right (and_congr_right fun hne => and_congr_right fun _ => ?_)
  constructor
  · rintro ⟨rfl, a, ha, rfl⟩
    exact ⟨a, ha, by rw [hpeer, State.updatedPeer_group hne ha], rfl⟩
  · rintro ⟨a, ha, rfl, rfl⟩
    exact ⟨by rw [hpeer, State.updatedPeer_group hne ha], a, ha, rfl⟩

/-- Claims admitted from a state whose claims are in range are in range. -/
theorem State.membershipClose_admits_inRange {s : State} {c : Settings} (hm : s.membershipClose.1.station = .member)
    (hr : s.ClaimsInRange) {k g : Nat} {claims : List Claim} (hk : k < 16)
    (ha : s.membershipClose.1.admits c k g claims) :
    (∀ x ∈ claims, x.inRange = true) ∧ (s.demand.claimRecord.length ≤ 4 → claims.length ≤ 4) := by
  have ⟨_, hown, _⟩ := hr
  rcases (s.membershipClose_admits_iff c hm hk).mp ha with ⟨-, -, -, rfl⟩ | ⟨-, -, a, hh, -, rfl⟩
  · exact ⟨hown, id⟩
  · obtain ⟨hlen, hall⟩ := Announcement.inRange_claims (State.heardFrom_inRange hr hh)
    exact ⟨hall, fun _ => hlen⟩

theorem State.closeClaims_of_member (s : State) (c : Settings) (hm : s.membershipClose.1.station = .member) :
    (s.closeClaims c).alloc.status = .building ∧
    (s.closeClaims c).alloc.claimList = s.membershipClose.1.formClaimList c :=
  ⟨if_pos hm, if_pos hm⟩

theorem State.closeClaims_of_not_member (s : State) (c : Settings) (hm : s.membershipClose.1.station ≠ .member) :
    (s.closeClaims c).alloc.status = .complete ∧ (s.closeClaims c).alloc.claimList = [] :=
  ⟨if_neg hm, if_neg hm⟩

/-- The members of the claim list of a MEMBER, in terms of the state before the close. -/
theorem State.mem_claimList_after_close (s : State) (c : Settings) (hm : s.membershipClose.1.station = .member)
    (e : ClaimEntry) :
    e ∈ s.membershipClose.1.formClaimList c ↔ ∃ x, e.stands s.membershipClose.1.timer.frame x ∧
      ((e.station = s.me ∧ s.ownClaimOutcome = .sent ∧ s.demand.claimRecord[e.position]? = some x ∧ e.group = c.group) ∨
        (e.station ≠ s.me ∧ e.station < 16 ∧ (s.membershipClose.1.peer e.station).state = .member ∧
          ∃ a, s.heardFrom e.station = some (.inStep, a) ∧ a.claims[e.position]? = some x ∧ e.group = a.group)) := by
  rw [State.mem_formClaimList]
  constructor
  · rintro ⟨hk, g, claims, x, ha, hx, rfl, hp⟩
    refine ⟨x, hx, ?_⟩
    rcases (s.membershipClose_admits_iff c hm hk).mp ha with ⟨hme, ho, hg, rfl⟩ | ⟨hne, hst, a, hh, hg, rfl⟩
    · exact .inl ⟨hme, ho, hp, hg⟩
    · exact .inr ⟨hne, hk, hst, a, hh, hp, hg⟩
  · rintro ⟨x, hx, ⟨hme, ho, hp, hg⟩ | ⟨hne, hk, hst, a, hh, hp, hg⟩⟩
    · have hk : e.station < 16 := hme ▸ s.me_lt
      exact ⟨hk, _, _, x, (s.membershipClose_admits_iff c hm hk).mpr (.inl ⟨hme, ho, hg, rfl⟩), hx, rfl, hp⟩
    · exact ⟨hk, _, _, x, (s.membershipClose_admits_iff c hm hk).mpr (.inr ⟨hne, hst, a, hh, hg, rfl⟩), hx, rfl, hp⟩

/-- An awaited claim phase close is emitted and has its reactions (R4, R47, R70). -/
theorem exec_claimPhaseClose_of_awaits {s : State} {c : Settings} (h : s.awaits c c.placeClaimClose) :
    exec .claimPhaseClose s = .next ((s.reach c c.placeClaimClose c.claimClose).closeClaims c) := by
  have ⟨hcfg, _⟩ := h
  simp only [exec, execClaimPhaseClose, hcfg, State.phase_of_awaits h]

end Sys2Proof.Machine

namespace Sys2Proof.Proofs

open Sys2Proof.Machine

/-- Settles O38: the Membership Unit's steps leave a MEMBER its queue and the peer table of the peer update, so the list it forms
is that of the claims this frame brought; ranks tell stations apart and places the claims of one, so its order is strict. -/
theorem rotationRank : Obligations.RotationRank := by
  unfold Obligations.RotationRank
  intro s c hs
  let r := s.reach c c.placeClaimClose c.claimClose
  refine ⟨r.closeClaims c, exec_claimPhaseClose_of_awaits hs, r.membershipClose_stays_member, rfl,
    State.memberView_pairwise _, State.mem_memberView _, fun hm => ?_, fun hm => ?_⟩
  · obtain ⟨hstatus, hlist⟩ := r.closeClaims_of_not_member c hm
    exact ⟨hstatus, hlist, rfl⟩
  · obtain ⟨hstatus, hlist⟩ := r.closeClaims_of_member c hm
    rw [hlist]
    refine ⟨hstatus, fun e => ?_, State.formClaimList_pairwise _ c, fun (hr : r.ClaimsInRange) => ⟨?_, fun hlen => ?_⟩⟩
    · refine (r.mem_claimList_after_close c hm e).trans (exists_congr fun x => ?_)
      simp only [ClaimEntry.stands, and_assoc]
      rfl
    · refine State.formClaimList_formed _ c fun k g claims hk ha x hx => Claim.inRange_span ?_
      exact (State.membershipClose_admits_inRange hm hr hk ha).1 x hx
    · exact State.formClaimList_length_le _ c fun k g claims hk ha =>
        (State.membershipClose_admits_inRange hm hr hk ha).2 hlen

end Sys2Proof.Proofs
end

section
/-! READ QUEUE and READ COUNTERS (O51). First the frame of a mark and of a phase event, by which a response stays fixed through
MARK, EXPIRY and SLOT_END (R148), then the bytes of the two responses (R153). -/

namespace Sys2Proof.Machine

/-! ### The frame of a mark and of a phase event -/

/-- The blocks that a mark or the end of an exposure can change: those that take part in a frame. -/
def frameBlocks : List Block :=
  [.timer, .bus, .membership, .alloc, .agree, .demand, .engine, .events, .counters]

theorem State.noteRunt_frame (s : State) (c : Settings) : s.onlyChanges (s.noteRunt c) [.events, .counters] :=
  State.onlyChanges_trans (State.onlyChanges_mono (s.count_frame _ _) (by simp))
    (State.onlyChanges_mono (State.offer_frame _ _) (by simp))

theorem State.setTimer_frame (s : State) (t : FrameTimer) : s.onlyChanges { s with timer := t } [.timer] := by
  intro b hb; cases b <;> simp_all [Block.same]

theorem State.observe_frame (s : State) : s.onlyChanges s.observe [.membership] := by
  intro b hb; cases b <;> simp_all [Block.same]

theorem State.endListening_frame (s : State) : s.onlyChanges s.endListening [.timer, .membership] :=
  State.onlyChanges_trans (State.onlyChanges_mono (s.setTimer_frame _) (by simp)) (State.enterJoining_frame _)

theorem State.membershipMark_frame (s : State) (cls : MarkClass) (selfStart : Bool) :
    s.onlyChanges (s.membershipMark cls selfStart) [.timer, .membership, .events] := by
  have hmap : s.onlyChanges { s with membership := s.membership.formHeardMap } [.timer, .membership, .events] :=
    State.onlyChanges_mono (s.setMembership_frame _) (by simp)
  unfold State.membershipMark
  dsimp only
  split
  · split
    · exact State.onlyChanges_trans hmap (State.onlyChanges_mono (State.enterJoining_frame _) (by simp))
    · split
      · exact State.onlyChanges_trans hmap (State.onlyChanges_mono (State.endListening_frame _) (by simp))
      · exact State.onlyChanges_trans hmap (State.onlyChanges_mono (State.observe_frame _) (by simp))
  · exact State.onlyChanges_trans hmap (State.enterOffline_frame _)
  · exact hmap

/-- The frame of a mark, reaction by reaction (R6, R9). -/
theorem State.takeMark_frame (s : State) (c : Settings) (cls : MarkClass) (selfStart pulls : Bool) :
    s.onlyChanges (s.takeMark c cls selfStart pulls) frameBlocks := by
  unfold State.takeMark
  extract_lets s0 s1 s2 s3 s4
  have hrunt : s.onlyChanges s0 frameBlocks := by
    unfold s0
    split
    · exact State.onlyChanges_mono (s.noteRunt_frame c) (by simp [frameBlocks])
    · exact s.onlyChanges_refl _
  have htimer : s0.onlyChanges s1 frameBlocks := State.onlyChanges_mono (s0.setTimer_frame _) (by simp [frameBlocks])
  have hengine : s1.onlyChanges s2 frameBlocks := State.onlyChanges_mono (s1.engineMark_frame c cls) (by simp [frameBlocks])
  have hdemand : s2.onlyChanges s3 frameBlocks := State.onlyChanges_mono (s2.demandMark_frame c cls) (by simp [frameBlocks])
  have hmember : s3.onlyChanges s4 frameBlocks :=
    State.onlyChanges_mono (s3.membershipMark_frame cls selfStart) (by simp [frameBlocks])
  have hreact : s.onlyChanges s4 frameBlocks :=
    State.onlyChanges_trans (State.onlyChanges_trans hrunt htimer)
      (State.onlyChanges_trans hengine (State.onlyChanges_trans hdemand hmember))
  refine State.onlyChanges_trans hreact fun b hb => ?_
  clear_value s4
  cases b <;> simp_all [Block.same, frameBlocks]

theorem State.engineSlotEnd_frame (s : State) (c : Settings) (k : Nat) :
    s.onlyChanges (s.engineSlotEnd c k) frameBlocks := by
  unfold State.engineSlotEnd
  split
  · split
    · exact State.onlyChanges_mono (s.endExposure_frame c _ _) (by simp [frameBlocks])
    · split
      · intro b hb; cases b <;> simp_all [Block.same, frameBlocks]
      · exact s.onlyChanges_refl _
  · exact s.onlyChanges_refl _

/-- A phase event changes what the Frame Timer's progress to it changes, and what its reaction does. -/
theorem State.phase_frame (s : State) (c : Settings) (place v : Nat) {react : State → State}
    (hreact : ∀ u : State, u.onlyChanges (react u) frameBlocks) :
    s.onlyChanges (s.phase c place v react) frameBlocks := by
  rcases s.phase_cases c place v react with ⟨-, h⟩ | ⟨-, -, -, h⟩ | ⟨-, -, h⟩ <;> rw [h]
  · exact State.onlyChanges_mono (s.passOver_frame place) (by simp [frameBlocks])
  · exact State.onlyChanges_trans (State.onlyChanges_mono (s.reach_frame c place v) (by simp [frameBlocks])) (hreact _)
  · exact s.onlyChanges_refl _

/-! ### MARK, EXPIRY and SLOT_END -/

theorem exec_mark_frame (s : State) : Completes .mark s (fun t => s.onlyChanges t frameBlocks) := by
  have hlevel : s.onlyChanges { s with timer := { s.timer with frmLow := true } } frameBlocks :=
    State.onlyChanges_mono (s.setTimer_frame _) (by simp [frameBlocks])
  simp only [Completes, exec, execMark]
  split
  · exact ⟨_, rfl, s.onlyChanges_refl _⟩
  · split
    · split
      · exact ⟨_, rfl, s.takeMark_frame _ _ _ _⟩
      · exact ⟨_, rfl, hlevel⟩
    · exact ⟨_, rfl, hlevel⟩

theorem exec_expiry_frame (s : State) : Completes .expiry s (fun t => s.onlyChanges t frameBlocks) := by
  simp only [Completes, exec, execExpiry]
  split
  · refine ⟨_, rfl, s.phase_frame _ _ _ fun u => ?_⟩
    split
    · exact u.takeMark_frame _ _ _ _
    · exact State.onlyChanges_mono (u.setTimer_frame _) (by simp [frameBlocks])
  · exact ⟨_, rfl, s.onlyChanges_refl _⟩

theorem exec_slotEnd_frame (s : State) (k : Nat) :
    Completes (.slotEnd k) s (fun t => s.onlyChanges t frameBlocks) := by
  simp only [Completes, exec, execSlotEnd]
  split
  · split
    · exact ⟨_, rfl, s.phase_frame _ _ _ fun u => u.engineSlotEnd_frame _ k⟩
    · exact ⟨_, rfl, s.onlyChanges_refl _⟩
  · exact ⟨_, rfl, s.onlyChanges_refl _⟩

/-- The Local Port is no block of the frame: a mark, an expiry or a completion leaves a response in progress as it was fixed
(R148). -/
theorem exec_frameEvent_keeps_port (s : State) {i : Instr} (hi : i = .mark ∨ i = .expiry ∨ ∃ k, i = .slotEnd k) :
    Completes i s (fun t => t.port = s.port) := by
  have hport : Block.port ∉ frameBlocks := by decide
  obtain ⟨t, ht, hframe⟩ : Completes i s (fun t => s.onlyChanges t frameBlocks) := by
    rcases hi with rfl | rfl | ⟨k, rfl⟩
    · exact exec_mark_frame s
    · exact exec_expiry_frame s
    · exact exec_slotEnd_frame s k
  exact ⟨t, ht, hframe .port hport⟩

/-! ### Code completion (R148) -/

theorem State.respond_frame (s : State) (kind : ResponseKind) (bytes : List Byte) :
    s.onlyChanges (s.respond kind bytes) [.port] := by
  intro b hb; cases b <;> simp_all [Block.same]

theorem State.completeCode_of_code {s : State} (h : s.port.state = .code) (code : Byte) :
    s.completeCode code = s.classifyCode code := if_pos h

theorem exec_readQueue_of_code {s : State} (h : s.port.state = .code) :
    exec .readQueue s = .next (s.respond .queue s.demand.bytes) :=
  congrArg Host.Outcome.next (State.completeCode_of_code h 0x05)

theorem exec_readCounters_of_code {s : State} (h : s.port.state = .code) :
    exec .readCounters s = .next (s.respond .counters s.counters.bytes) :=
  congrArg Host.Outcome.next (State.completeCode_of_code h 0x06)

/-! ### The bytes of READ QUEUE (R153) -/

theorem DemandEntry.bytes_eq (e : DemandEntry) :
    e.bytes = [hiByte e.request, loByte e.request, byteOf e.cls, byteOf e.age,
      match e.bound with
      | none => 0xFF
      | some (k, ch) => byteOf (k * 4 + ch)] := by
  cases hb : e.bound <;> simp [DemandEntry.bytes, halfBytes, optByte, hb]

@[simp] theorem DemandEntry.bytes_length (e : DemandEntry) : e.bytes.length = 5 := by
  simp [DemandEntry.bytes_eq]

theorem flatMap_entryBytes_length (l : List DemandEntry) : (l.flatMap DemandEntry.bytes).length = 5 * l.length := by
  simp [List.length_flatMap, Nat.mul_comm]

/-- Each entry stands at its position, five bytes on for each entry before it. -/
theorem entryBytes_at_position {l : List DemandEntry} {i : Nat} {e : DemandEntry} (h : l[i]? = some e) (rest : List Byte) :
    ((l.flatMap DemandEntry.bytes ++ rest).drop (5 * i)).take 5 = e.bytes := by
  induction l generalizing i with
  | nil => cases h
  | cons x xs ih =>
    cases i with
    | zero =>
      cases h
      simp
    | succ i =>
      have hskip : 5 * (i + 1) = x.bytes.length + 5 * i := by rw [x.bytes_length]; omega
      rw [List.flatMap_cons, List.append_assoc, hskip, List.drop_length_add_append]
      exact ih h

theorem DemandQueue.bytes_length {q : DemandQueue} (h : q.entries.length ≤ 12) : q.bytes.length = 61 := by
  simp only [DemandQueue.bytes, List.length_cons, List.length_append, flatMap_entryBytes_length, List.length_replicate]
  omega

theorem DemandQueue.bytes_at_position (q : DemandQueue) {i : Nat} {e : DemandEntry} (h : q.entries[i]? = some e) :
    (q.bytes.drop (1 + 5 * i)).take 5 = e.bytes := by
  rw [DemandQueue.bytes, Nat.add_comm, List.drop_succ_cons]
  exact entryBytes_at_position h _

theorem DemandQueue.bytes_after_entries (q : DemandQueue) {j : Nat} (h : 1 + 5 * q.entries.length ≤ j) (hj : j < 61) :
    byteAt q.bytes j = 0xFF := by
  obtain ⟨d, rfl⟩ := Nat.exists_eq_add_of_le h
  have hlen := flatMap_entryBytes_length q.entries
  have hskip : 1 + 5 * q.entries.length + d = (q.entries.flatMap DemandEntry.bytes).length + d + 1 := by omega
  have hin : d < 5 * (12 - q.entries.length) := by omega
  simp [byteAt, DemandQueue.bytes, List.getD_eq_getElem?_getD, hskip, hin]

end Sys2Proof.Machine

namespace Sys2Proof.Proofs

open Sys2Proof.Machine

/-- Settles O51: the snapshot writes the response into the Local Port alone, and no event of the frame reaches that block; the
entries of the queue are five bytes each, so each stands at its position and FFh fills up the twelve. -/
theorem queueAndCountersAreRead : Obligations.QueueAndCountersAreRead := by
  unfold Obligations.QueueAndCountersAreRead
  intro s hcode hlen num answered
  have hanswered (kind : ResponseKind) (bytes : List Byte) : answered kind bytes (s.respond kind bytes) :=
    ⟨rfl, s.respond_frame kind bytes, fun _ hi => exec_frameEvent_keeps_port _ hi⟩
  refine ⟨⟨s.demand.bytes, ⟨_, exec_readQueue_of_code hcode, hanswered _ _⟩, DemandQueue.bytes_length hlen, rfl,
    fun i e he => ?_, fun j hj hj' => s.demand.bytes_after_entries hj hj'⟩,
    ⟨s.counters.bytes, ⟨_, exec_readCounters_of_code hcode, hanswered _ _⟩, rfl, rfl⟩⟩
  exact (s.demand.bytes_at_position he).trans e.bytes_eq

end Sys2Proof.Proofs
end

section
/-! What a command can do (O1, O3): the frames of the operations that commands are made of, and the effects of every command in
terms of those operations. -/

namespace Sys2Proof.Machine

/-! ### Frames of single updates -/

/-- Frames compose into any frame that holds the blocks of both. -/
theorem State.onlyChanges_comp {s t u : State} {l l' m : List Block} (h : s.onlyChanges t l) (h' : t.onlyChanges u l')
    (hl : ∀ b ∈ l ++ l', b ∈ m) : s.onlyChanges u m :=
  State.onlyChanges_trans (State.onlyChanges_mono h fun b hb => hl b (List.mem_append_left _ hb))
    (State.onlyChanges_mono h' fun b hb => hl b (List.mem_append_right _ hb))

theorem State.setBus_frame (s : State) (b : BusInterface) : s.onlyChanges { s with bus := b } [.bus] := by
  intro b hb; cases b <;> simp_all [Block.same]

theorem State.setEngine_frame (s : State) (e : PatternEngine) : s.onlyChanges { s with engine := e } [.engine] := by
  intro b hb; cases b <;> simp_all [Block.same]

theorem State.setDemand_frame (s : State) (q : DemandQueue) : s.onlyChanges { s with demand := q } [.demand] := by
  intro b hb; cases b <;> simp_all [Block.same]

theorem State.setAgree_frame (s : State) (a : Agreement) : s.onlyChanges { s with agree := a } [.agree] := by
  intro b hb; cases b <;> simp_all [Block.same]

theorem State.setAlloc_frame (s : State) (a : Allocator) : s.onlyChanges { s with alloc := a } [.alloc] := by
  intro b hb; cases b <;> simp_all [Block.same]

theorem State.setPort_frame (s : State) (p : LocalPort) : s.onlyChanges { s with port := p } [.port] := by
  intro b hb; cases b <;> simp_all [Block.same]

theorem State.setEvents_frame (s : State) (q : EventQueue) : s.onlyChanges { s with events := q } [.events] := by
  intro b hb; cases b <;> simp_all [Block.same]

theorem State.setCounters_frame (s : State) (k : Counters) : s.onlyChanges { s with counters := k } [.counters] := by
  intro b hb; cases b <;> simp_all [Block.same]

theorem State.setPending_frame (s : State) (q : List Instr) : s.onlyChanges { s with pending := q } [.pending] := by
  intro b hb; cases b <;> simp_all [Block.same]

theorem State.openWindow_frame (s : State) (kind : WindowKind) (k : Nat) : s.onlyChanges (s.openWindow kind k) [.bus] :=
  s.setBus_frame _

theorem State.startLeadIn_frame (s : State) (kind : WindowKind) : s.onlyChanges (s.startLeadIn kind) [.bus] :=
  s.setBus_frame _

/-! ### Frames of the reactions -/

theorem State.assertReset_frame (s : State) : s.onlyChanges s.assertReset
    [.straps, .config, .timer, .bus, .membership, .alloc, .agree, .demand, .engine, .loader, .events, .counters, .port] := by
  intro b hb; cases b <;> simp_all [Block.same, State.assertReset]

/-- The blocks that load completion with success can change. -/
def loadBlocks : List Block :=
  [.config, .timer, .membership, .alloc, .agree, .demand, .engine, .loader, .events, .counters]

theorem State.completeLoad_frame (s : State) (a b : Bool) : s.onlyChanges (s.completeLoad a b) loadBlocks := by
  refine State.onlyChanges_trans (fun b hb => ?_)
    (State.onlyChanges_mono (State.enterListening_frame _) (by simp [loadBlocks]))
  cases b <;> simp_all [Block.same, loadBlocks]

theorem State.ownWindowReaction_frame (s : State) (c : Settings) :
    s.onlyChanges (s.ownWindowReaction c) [.membership, .agree, .demand, .events, .counters] := by
  unfold State.ownWindowReaction
  split
  · split
    · exact s.enterLeaving_frame
    · exact State.onlyChanges_mono (s.setDemand_frame _) (by decide)
  · exact State.onlyChanges_mono (s.setDemand_frame _) (by decide)

theorem State.collide_frame (s : State) (c : Settings) (kind : WindowKind) (i : Nat) :
    s.onlyChanges (s.collide c kind i) [.timer, .bus, .engine, .events, .counters] := by
  refine State.onlyChanges_comp (t := s.toSample c kind i) (s.advanceClock_frame c _ _) ?_
    (l' := [.bus, .events, .counters]) (by decide)
  intro b hb; cases b <;> simp_all [Block.same, State.collide]

theorem State.countRecord_frame (s : State) (r : WindowRecord) : s.onlyChanges (s.countRecord r) [.counters] := by
  unfold State.countRecord
  split
  · exact s.count_frame _ _
  · exact s.count_frame _ _
  · split
    · exact s.count_frame _ _
    · exact s.onlyChanges_refl _
  · exact s.onlyChanges_refl _

theorem State.handRecord_frame (s : State) (kind : WindowKind) (k : Nat) (r : WindowRecord) :
    s.onlyChanges (s.handRecord kind k r) [.membership, .agree] := by
  unfold State.handRecord
  split
  · split
    · exact State.onlyChanges_mono (s.setMembership_frame _) (by decide)
    · exact s.onlyChanges_refl _
  · exact State.onlyChanges_mono (s.setAgree_frame _) (by decide)
  · exact s.onlyChanges_refl _

theorem State.closeClaims_frame (s : State) (c : Settings) : s.onlyChanges (s.closeClaims c) (.alloc :: closeBlocks) := by
  refine State.onlyChanges_comp s.membershipClose_frame ?_ (l' := [.agree, .alloc]) (by decide)
  exact State.onlyChanges_comp (State.setAgree_frame _ _) (State.setAlloc_frame _ _) (by decide)

theorem State.completeAllocation_frame (s : State) (c : Settings) :
    s.onlyChanges (s.completeAllocation c) [.alloc, .agree, .counters, .draws] := by
  unfold State.completeAllocation
  dsimp only
  split <;> (intro b hb; cases b <;> simp_all [Block.same])

theorem State.vote_frame (s : State) (c : Settings) (own : Half) :
    s.onlyChanges (s.vote c own) [.agree, .demand, .events, .counters] := by
  unfold State.vote
  dsimp only
  split
  · exact State.onlyChanges_comp (s.setAgree_frame _) (State.bind_frame _ _) (by decide)
  · intro b hb; cases b <;> simp_all [Block.same]

theorem State.arrive_frame (s : State) (cls : Nat) : s.onlyChanges (s.arrive cls) [.demand, .events, .counters] := by
  unfold State.arrive
  split
  · split
    · exact State.onlyChanges_mono (s.setDemand_frame _) (by decide)
    · exact State.onlyChanges_comp (State.count_frame _ _ _) (State.offer_frame _ _) (by decide)
  · split
    · exact s.onlyChanges_refl _
    · exact State.onlyChanges_mono (s.count_frame _ _) (by decide)

theorem State.faultStation_frame (s : State) :
    s.onlyChanges s.faultStation [.timer, .membership, .agree, .demand, .events, .counters] := by
  unfold State.faultStation
  split
  · exact s.enterListening_frame
  · exact s.enterListening_frame
  · exact State.onlyChanges_mono s.enterOffline_frame (by decide)
  · exact State.onlyChanges_mono (s.setMembership_frame _) (by decide)
  · exact s.onlyChanges_refl _

theorem State.takeBusFault_frame (s : State) (c : Settings) : s.onlyChanges (s.takeBusFault c) frameBlocks := by
  let s1 := (s.count .busFaults 1).offer { kind := .busFault, frame := s.timer.frame }
  have h1 : s.onlyChanges s1 [.events, .counters] :=
    State.onlyChanges_comp (s.count_frame _ _) (State.offer_frame _ _) (by decide)
  have h2 : s1.onlyChanges (s1.faultStation.abortEngine c)
      [.timer, .membership, .agree, .demand, .engine, .events, .counters] :=
    State.onlyChanges_comp s1.faultStation_frame (State.abortEngine_frame _ c) (by decide)
  refine State.onlyChanges_comp (State.onlyChanges_comp h1 h2 (m := frameBlocks) (by decide)) (fun b hb => ?_)
    (l' := [.timer, .bus, .alloc]) (by decide)
  cases b <;> simp_all [Block.same, State.takeBusFault, s1]

/-- The blocks that the end of a transaction can change. -/
def transactionBlocks : List Block := [.timer, .membership, .agree, .demand, .events, .counters, .port]

theorem State.takeCommand_frame (s : State) (c : PortCommand) : s.onlyChanges (s.takeCommand c).1 transactionBlocks := by
  have hl : s.onlyChanges s.enterListening transactionBlocks := State.onlyChanges_mono s.enterListening_frame (by decide)
  have ho : s.onlyChanges s.enterOffline transactionBlocks := State.onlyChanges_mono s.enterOffline_frame (by decide)
  have hm (m : Membership) : s.onlyChanges { s with membership := m } transactionBlocks :=
    State.onlyChanges_mono (s.setMembership_frame m) (by decide)
  cases c with
  | clearCounters => exact State.onlyChanges_mono (s.setCounters_frame _) (by decide)
  | leave =>
    simp only [State.takeCommand, State.takeLeave]
    split
    · exact hm _
    · exact ho
    · exact ho
    · exact s.onlyChanges_refl _
  | rejoin =>
    simp only [State.takeCommand, State.takeRejoin]
    split
    · exact hl
    · split
      · exact hm _
      · exact s.onlyChanges_refl _
    · exact s.onlyChanges_refl _

theorem State.endAction_frame (s : State) : s.onlyChanges s.endAction transactionBlocks := by
  have he (q : EventQueue) : s.onlyChanges { s with events := q } transactionBlocks :=
    State.onlyChanges_mono (s.setEvents_frame q) (by decide)
  unfold State.endAction
  split
  · split
    · split
      · exact he _
      · exact s.onlyChanges_refl _
    · split
      · exact he _
      · exact s.onlyChanges_refl _
    · exact State.onlyChanges_comp (s.takeCommand_frame _) (State.setPort_frame _ _) (by decide)
    · exact s.onlyChanges_refl _
  · exact s.onlyChanges_refl _

theorem State.endTransaction_frame (s : State) : s.onlyChanges s.endTransaction transactionBlocks :=
  State.onlyChanges_comp s.endAction_frame (State.setPort_frame _ _) (by decide)

theorem State.completeCode_frame (s : State) (code : Byte) : s.onlyChanges (s.completeCode code) [.port, .events] := by
  have hr (kind : ResponseKind) (bytes : List Byte) : s.onlyChanges (s.respond kind bytes) [.port, .events] :=
    State.onlyChanges_mono (s.respond_frame kind bytes) (by decide)
  unfold State.completeCode State.classifyCode
  split
  · split
    · exact State.onlyChanges_comp (s.setEvents_frame _) (State.respond_frame _ _ _) (by decide)
    all_goals exact hr _ _
  · exact s.onlyChanges_refl _

/-! ### All a command can do -/

/-- A header, a granule or a failed test has been taken, and the pause before the next read begins (R134, R136). -/
def State.readGranule (s : State) (bytes : List Byte) : State :=
  { s with loader := (s.loader.granule bytes).pause (Config.bootPause s.draws), draws := s.draws + 1 }

/-- The load has failed for a reason (R145). -/
def State.failLoad (s : State) (why : LoadReason) : State :=
  { s with
    loader := { s.loader with
      state := .failed, result := .failure, reason := why, boot := none, bootPause := 0, bootClock := 0, failing := none }
    membership := { s.membership with station := .loadFailed } }

/-- The straps are sampled and the load begins (R132). -/
def State.beginLoad (s : State) (straps : BitVec 4) : State :=
  { s with rstLow := false, sid := straps, loader := { ImageLoader.reset with state := .headers, boot := some (0, 0) } }

/-- The station waits at L for a mark (R7). -/
def State.hold (s : State) (c : Settings) : State :=
  { s with timer := { s.timer with mode := .holding, value := c.frameLength } }

/-- The own pull ends (R8). -/
def State.endPull (s : State) : State := { s with timer := { s.timer with ownPull := false } }

/-- FRM rises (R14, R16). -/
def State.riseFrm (s : State) : State := { s with timer := s.timer.rise }

/-- The transmitter in another state, the rest as it was. -/
def State.setTx (s : State) (tx : Transmitter) : State := { s with bus := { s.bus with tx := tx } }

/-- A window's record is written and counted (R31 to R34). -/
def State.settle (s : State) (kind : WindowKind) (k : Nat) (r : WindowRecord) : State :=
  ({ s with bus := s.bus.write kind k r } : State).countRecord r

/-- The reactions to slot `k` start (R109, R120). -/
def State.startSlot (s : State) (c : Settings) (k : Nat) : State :=
  { s with
    engine := s.engineSlotStart c k
    demand := if s.agree.verdict = .expose then s.demand.startSlot k else s.demand }

/-- The edges due by a time are applied (R122). -/
def State.playEdges (s : State) (c : Settings) (r : RunningPattern) (offset fine : Nat) : State :=
  { s with engine := s.engine.play c r offset fine }

/-- The filter of an input has taken its samples (R161). -/
def State.setFilter (s : State) (input : TrgInput) (f : TrgFilter) : State :=
  { s with demand := s.demand.setFilter input f }

/-- The own claim window opens: the reactions of the blocks, and the lead-in in a station that announces (R23, R62, R105). -/
def State.openOwnClaim (s : State) (c : Settings) : State :=
  let u := (s.openWindow .claim s.me).ownWindowReaction c
  if u.station.announces then u.startLeadIn .claim else u

/-- All a command can do in a state, in terms of the operations it is made of, with the conditions under which it does so. -/
inductive Effect (s : State) : State → Prop
  | stay : Effect s s
  | reset : Effect s s.assertReset
  | beginLoad (straps : BitVec 4) (h : s.rstLow = true) : Effect s (s.beginLoad straps)
  | granule (bytes : List Byte) (h : s.loader.boot.isSome = true) : Effect s (s.readGranule bytes)
  | load (a b : Bool) (h : s.loadSucceeds = true) : Effect s (s.completeLoad a b)
  | failLoad (why : LoadReason) (h : s.loadFailure = some why) : Effect s (s.failLoad why)
  | mark (c : Settings) (hc : s.cfg = some c) (hl : s.timer.frmLow = false) (hm : s.timer.mode.monitors = true) :
      Effect s (s.takeMark c (s.markClass c) false false)
  | fall (hl : s.timer.frmLow = false) (h : ∀ c, s.cfg = some c → s.timer.mode.monitors = false) :
      Effect s { s with timer := { s.timer with frmLow := true } }
  | passOver (c : Settings) (place : Nat) (hc : s.cfg = some c) (hp : place ∈ s.timer.lapsed) : Effect s (s.passOver place)
  | expire (c : Settings) (h : s.awaits c c.placeExpiry) (hp : s.station.pullsAtExpiry = true) :
      Effect s ((s.reach c c.placeExpiry c.frameLength).takeMark c .normal false true)
  | hold (c : Settings) (h : s.awaits c c.placeExpiry) (hp : s.station.pullsAtExpiry = false) :
      Effect s ((s.reach c c.placeExpiry c.frameLength).hold c)
  | pullEnd (c : Settings) (hc : s.cfg = some c) (h : s.timer.ownPull = true) : Effect s (s.advanceTo c 8).endPull
  | rise (hl : s.timer.frmLow = true) (hp : s.timer.ownPull = false) : Effect s s.riseFrm
  | riseStart (c : Settings) (hc : s.cfg = some c) (hl : s.timer.frmLow = true) (hp : s.timer.ownPull = false)
      (h : s.selfStartDue c = true) : Effect s (s.riseFrm.takeMark c .normal true true)
  | busFault (c : Settings) (hc : s.cfg = some c) (hm : s.timer.mode.monitors = true) (hl : s.timer.frmLow = true)
      (hp : s.timer.ownPull = false) : Effect s ((s.elapse c (65 - s.timer.markLow)).takeBusFault c)
  | selfStart (c : Settings) (hc : s.cfg = some c) (hs : s.station = .listening) (hm : s.timer.mode ≠ .stopped)
      (hl : s.timer.frmLow = false) : Effect s (s.takeMark c .normal true true)
  | silence (c : Settings) (n : Nat) (hc : s.cfg = some c) : Effect s (s.elapse c n)
  | openPeer (c : Settings) (kind : WindowKind) (place v k : Nat) (h : s.awaits c place) :
      Effect s ((s.reach c place v).openWindow kind k)
  | openOwnClaim (c : Settings) (h : s.awaits c s.me) (hk : s.me < c.windows) :
      Effect s ((s.reach c s.me (c.claimStart s.me)).openOwnClaim c)
  | openOwnDigest (c : Settings) (place v k : Nat) (h : s.awaits c place) :
      Effect s (((s.reach c place v).openWindow .digest k).startLeadIn .digest)
  | leadInEnd (c : Settings) (v : Nat) (tx : Transmitter) (hc : s.cfg = some c) : Effect s ((s.advanceTo c v).setTx tx)
  | sent (c : Settings) (kind : WindowKind) (i : Nat) (tx : Transmitter) (hc : s.cfg = some c) :
      Effect s ((s.toSample c kind i).setTx tx)
  | collide (c : Settings) (kind : WindowKind) (i : Nat) (hc : s.cfg = some c) : Effect s (s.collide c kind i)
  | settleOwn (c : Settings) (kind : WindowKind) (line : DatLine) (v : Nat) (hc : s.cfg = some c) :
      Effect s ((s.advanceTo c v).settle kind s.me ((s.advanceTo c v).settleRecord c kind s.me line))
  | settlePeer (c : Settings) (kind : WindowKind) (k : Nat) (line : DatLine) (v : Nat) (hc : s.cfg = some c)
      (hw : s.bus.window = some (kind, k)) (hk : k ≠ s.me) :
      Effect s (((s.advanceTo c v).settle kind k ((s.advanceTo c v).settleRecord c kind k line)).handRecord kind k
        ((s.advanceTo c v).settleRecord c kind k line))
  | close (c : Settings) (h : s.awaits c c.placeClaimClose) :
      Effect s ((s.reach c c.placeClaimClose c.claimClose).closeClaims c)
  | allocate (c : Settings) (hc : s.cfg = some c) (h : s.alloc.status = .building) : Effect s (s.completeAllocation c)
  | vote (c : Settings) (own : Half) (h : s.awaits c c.placeDigestClose) (hs : s.station = .member)
      (ho : s.agree.ownDigest = some own) : Effect s ((s.reach c c.placeDigestClose c.digestClose).vote c own)
  | noVote (c : Settings) (h : s.awaits c c.placeDigestClose) : Effect s (s.reach c c.placeDigestClose c.digestClose)
  | slotStart (c : Settings) (k : Nat) (h : s.awaits c (c.placeSlotStart k)) (hk : k < c.slots) :
      Effect s ((s.reach c (c.placeSlotStart k) (c.slotStartAt k)).startSlot c k)
  | slotEnd (c : Settings) (k : Nat) (h : s.awaits c (c.placeSlotEnd k)) (hk : k < c.slots) :
      Effect s ((s.reach c (c.placeSlotEnd k) (c.slotEndAt k)).engineSlotEnd c k)
  | patternEdge (c : Settings) (r : RunningPattern) (e : Edge) (hc : s.cfg = some c) (hm : s.engine.mode = .running r)
      (he : e ∈ c.patternEdges r.pattern) :
      Effect s ((s.edgeTime c r e.offset e.fine).playEdges c r e.offset e.fine)
  | samples (c : Settings) (input : TrgInput) (lows highs : Nat) (hc : s.cfg = some c) :
      Effect s (s.setFilter input (filterPulse c.divider (s.demand.filterOf input) lows highs).1)
  | arrive (c : Settings) (input : TrgInput) (lows highs cls : Nat) (hc : s.cfg = some c) :
      Effect s ((s.setFilter input (filterPulse c.divider (s.demand.filterOf input) lows highs).1).arrive cls)
  | port (p : LocalPort) : Effect s { s with port := p }
  | endTransaction : Effect s s.endTransaction
  | code (code : Byte) : Effect s (s.completeCode code)

/-- A phase event has the effect of its reaction, where it is awaited. -/
theorem Completes.phase {s : State} {c : Settings} (hc : s.cfg = some c) (place v : Nat) {react : State → State}
    (h : s.awaits c place → Effect s (react (s.reach c place v))) : Effect s (s.phase c place v react) := by
  rcases s.phase_cases c place v react with ⟨hl, e⟩ | ⟨hl, hm, he, e⟩ | ⟨-, -, e⟩ <;> rw [e]
  · exact .passOver c place hc hl
  · exact h ⟨hc, hm, he, hl⟩
  · exact .stay

/-- An effect of a command that is answered either by the state `t` or by no change. -/
theorem next_ite_effect {s t : State} (p : Prop) [Decidable p] (h : p → Effect s t) :
    ∃ u, (if p then .next t else .next s : Result) = .next u ∧ Effect s u := by
  split
  · exact ⟨_, rfl, h ‹_›⟩
  · exact ⟨_, rfl, .stay⟩

theorem execMark_effect (s : State) : ∃ t, execMark s = .next t ∧ Effect s t := by
  unfold execMark
  split
  · exact ⟨_, rfl, .stay⟩
  · have hl : s.timer.frmLow = false := by simp_all
    split
    · next c hc =>
      split
      · exact ⟨_, rfl, .mark c hc hl ‹_›⟩
      · exact ⟨_, rfl, .fall hl fun c' hc' => by simp_all⟩
    · exact ⟨_, rfl, .fall hl fun c' hc' => by simp_all⟩

theorem execExpiry_effect (s : State) : ∃ t, execExpiry s = .next t ∧ Effect s t := by
  unfold execExpiry
  split
  · next c hc =>
    refine ⟨_, rfl, Completes.phase hc _ _ fun h => ?_⟩
    split
    · next hp => exact .expire c h hp
    · next hp => exact .hold c h (by simpa using hp)
  · exact ⟨_, rfl, .stay⟩

theorem execFrmPullEnd_effect (s : State) : ∃ t, execFrmPullEnd s = .next t ∧ Effect s t := by
  unfold execFrmPullEnd
  split
  · exact next_ite_effect _ (.pullEnd _ ‹_›)
  · exact ⟨_, rfl, .stay⟩

theorem execFrmRisingEdge_effect (s : State) : ∃ t, execFrmRisingEdge s = .next t ∧ Effect s t := by
  unfold execFrmRisingEdge
  split
  · next h =>
    split
    · next c hc =>
      split
      · exact ⟨_, rfl, .riseStart c hc h.1 h.2 ‹_›⟩
      · exact ⟨_, rfl, .rise h.1 h.2⟩
    · exact ⟨_, rfl, .rise h.1 h.2⟩
  · exact ⟨_, rfl, .stay⟩

theorem execBusFault_effect (s : State) : ∃ t, execBusFault s = .next t ∧ Effect s t := by
  unfold execBusFault
  split
  · exact next_ite_effect _ fun ⟨hm, hl, hp⟩ => .busFault _ ‹_› hm hl hp
  · exact ⟨_, rfl, .stay⟩

theorem execSelfStart_effect (s : State) : ∃ t, execSelfStart s = .next t ∧ Effect s t := by
  unfold execSelfStart
  split
  · next c hc =>
    split
    · next h =>
      split
      · exact ⟨_, rfl, .selfStart c hc h.1 h.2 ‹_›⟩
      · exact next_ite_effect _ fun _ => .silence c _ hc
    · exact ⟨_, rfl, .stay⟩
  · exact ⟨_, rfl, .stay⟩

theorem execClaimWindowStart_effect (k : Nat) (s : State) : ∃ t, execClaimWindowStart k s = .next t ∧ Effect s t := by
  unfold execClaimWindowStart
  split
  · next c hc =>
    split
    · refine ⟨_, rfl, Completes.phase hc _ _ fun h => ?_⟩
      dsimp only
      split
      · next hk =>
        obtain rfl : k = s.me := hk
        exact .openOwnClaim c h ‹_›
      · exact .openPeer c .claim _ _ k h
    · exact ⟨_, rfl, .stay⟩
  · exact ⟨_, rfl, .stay⟩

theorem execDigestWindowStart_effect (k : Nat) (s : State) : ∃ t, execDigestWindowStart k s = .next t ∧ Effect s t := by
  unfold execDigestWindowStart
  split
  · next c hc =>
    split
    · refine ⟨_, rfl, Completes.phase hc _ _ fun h => ?_⟩
      dsimp only
      split
      · exact .openOwnDigest c _ _ k h
      · exact .openPeer c .digest _ _ k h
    · exact ⟨_, rfl, .stay⟩
  · exact ⟨_, rfl, .stay⟩

theorem execLeadInEnd_effect (s : State) : ∃ t, execLeadInEnd s = .next t ∧ Effect s t := by
  unfold execLeadInEnd
  split
  · next c _ _ _ _ hc _ =>
    dsimp only
    split
    · exact ⟨_, rfl, .leadInEnd c _ _ hc⟩
    · exact ⟨_, rfl, .leadInEnd c _ _ hc⟩
  · exact ⟨_, rfl, .stay⟩

theorem execMessageSent_effect (s : State) : ∃ t, execMessageSent s = .next t ∧ Effect s t := by
  unfold execMessageSent
  split
  · exact ⟨_, rfl, .sent _ _ _ _ ‹_›⟩
  · exact ⟨_, rfl, .stay⟩

theorem execCollision_effect (bit : Nat) (s : State) : ∃ t, execCollision bit s = .next t ∧ Effect s t := by
  unfold execCollision
  split
  · exact next_ite_effect _ fun _ => .collide _ _ _ ‹_›
  · exact next_ite_effect _ fun _ => .collide _ _ _ ‹_›
  · exact ⟨_, rfl, .stay⟩

theorem execWindowSettle_effect (line : DatLine) (s : State) : ∃ t, execWindowSettle line s = .next t ∧ Effect s t := by
  unfold execWindowSettle
  split
  · next c kind k hc hw =>
    dsimp only
    split
    · next hk => subst hk; exact ⟨_, rfl, .settleOwn c kind line _ hc⟩
    · exact ⟨_, rfl, .settlePeer c kind k line _ hc hw ‹_›⟩
  · exact ⟨_, rfl, .stay⟩

theorem execClaimPhaseClose_effect (s : State) : ∃ t, execClaimPhaseClose s = .next t ∧ Effect s t := by
  unfold execClaimPhaseClose
  split
  · exact ⟨_, rfl, Completes.phase ‹_› _ _ (.close _)⟩
  · exact ⟨_, rfl, .stay⟩

theorem execAllocationComplete_effect (s : State) : ∃ t, execAllocationComplete s = .next t ∧ Effect s t := by
  unfold execAllocationComplete
  split
  · exact next_ite_effect _ fun ⟨_, h⟩ => .allocate _ ‹_› h
  · exact ⟨_, rfl, .stay⟩

theorem execDigestPhaseClose_effect (s : State) : ∃ t, execDigestPhaseClose s = .next t ∧ Effect s t := by
  unfold execDigestPhaseClose
  split
  · next c hc =>
    refine ⟨_, rfl, Completes.phase hc _ _ fun h => ?_⟩
    split
    · next own hs ho => exact .vote c own h hs ho
    · exact .noVote c h
  · exact ⟨_, rfl, .stay⟩

theorem execSlotStart_effect (k : Nat) (s : State) : ∃ t, execSlotStart k s = .next t ∧ Effect s t := by
  unfold execSlotStart
  split
  · split
    · exact ⟨_, rfl, Completes.phase ‹_› _ _ fun h => .slotStart _ k h ‹_›⟩
    · exact ⟨_, rfl, .stay⟩
  · exact ⟨_, rfl, .stay⟩

theorem execSlotEnd_effect (k : Nat) (s : State) : ∃ t, execSlotEnd k s = .next t ∧ Effect s t := by
  unfold execSlotEnd
  split
  · split
    · exact ⟨_, rfl, Completes.phase ‹_› _ _ fun h => .slotEnd _ k h ‹_›⟩
    · exact ⟨_, rfl, .stay⟩
  · exact ⟨_, rfl, .stay⟩

theorem execPatternEdge_effect (offset fine : Nat) (s : State) :
    ∃ t, execPatternEdge offset fine s = .next t ∧ Effect s t := by
  unfold execPatternEdge
  split
  · refine next_ite_effect _ fun h => ?_
    obtain ⟨e, he, heq⟩ := List.any_eq_true.mp h
    simp only [Bool.and_eq_true, beq_iff_eq] at heq
    obtain ⟨rfl, rfl⟩ := heq
    exact .patternEdge _ _ e ‹_› ‹_› (List.mem_of_mem_drop he)
  · exact ⟨_, rfl, .stay⟩

theorem execTriggerArrival_effect (input : TrgInput) (lows highs : Nat) (s : State) :
    ∃ t, execTriggerArrival input lows highs s = .next t ∧ Effect s t := by
  unfold execTriggerArrival
  split
  · dsimp only
    split
    · exact ⟨_, rfl, .arrive _ _ _ _ _ ‹_›⟩
    · exact ⟨_, rfl, .samples _ _ _ _ ‹_›⟩
  · exact ⟨_, rfl, .stay⟩

theorem execTransactionStart_effect (s : State) : ∃ t, execTransactionStart s = .next t ∧ Effect s t := by
  unfold execTransactionStart
  split
  · exact ⟨_, rfl, .stay⟩
  · exact ⟨_, rfl, .port _⟩

theorem execResponseByteShiftedOut_effect (s : State) : ∃ t, execResponseByteShiftedOut s = .next t ∧ Effect s t := by
  unfold execResponseByteShiftedOut
  split
  · exact ⟨_, rfl, .port _⟩
  · exact ⟨_, rfl, .stay⟩

theorem execRejectedCode_effect (code : Byte) (s : State) : ∃ t, execRejectedCode code s = .next t ∧ Effect s t := by
  unfold execRejectedCode
  split
  · exact ⟨_, rfl, .stay⟩
  · exact ⟨_, rfl, .code _⟩

theorem execLoadCompletionFailure_effect (s : State) : ∃ t, execLoadCompletionFailure s = .next t ∧ Effect s t := by
  unfold execLoadCompletionFailure
  split
  · exact ⟨_, rfl, .failLoad _ ‹_›⟩
  · exact ⟨_, rfl, .stay⟩

/-- Every command completes in every state, with one of the effects. -/
theorem exec_effect (i : Instr) (s : State) : Completes i s (Effect s) := by
  cases i with
  | rstAsserted n => exact next_ite_effect _ fun _ => .reset
  | rstNegated straps => exact next_ite_effect _ (.beginLoad straps)
  | granuleRead bytes => exact next_ite_effect _ (.granule bytes)
  | loadCompletionSuccess a b => exact next_ite_effect _ (.load a b)
  | loadCompletionFailure => exact execLoadCompletionFailure_effect s
  | mark => exact execMark_effect s
  | expiry => exact execExpiry_effect s
  | frmPullEnd => exact execFrmPullEnd_effect s
  | frmRisingEdge => exact execFrmRisingEdge_effect s
  | busFault => exact execBusFault_effect s
  | selfStart => exact execSelfStart_effect s
  | claimWindowStart k => exact execClaimWindowStart_effect k s
  | digestWindowStart k => exact execDigestWindowStart_effect k s
  | messageSent => exact execMessageSent_effect s
  | collision bit => exact execCollision_effect bit s
  | windowSettle line => exact execWindowSettle_effect line s
  | claimPhaseClose => exact execClaimPhaseClose_effect s
  | allocationComplete => exact execAllocationComplete_effect s
  | digestPhaseClose => exact execDigestPhaseClose_effect s
  | slotStart k => exact execSlotStart_effect k s
  | slotEnd k => exact execSlotEnd_effect k s
  | patternEdge offset fine => exact execPatternEdge_effect offset fine s
  | triggerArrival input lows highs => exact execTriggerArrival_effect input lows highs s
  | transactionStart => exact execTransactionStart_effect s
  | transactionEnd | clearCounters | leave | rejoin => exact next_ite_effect _ fun _ => .endTransaction
  | rejectedCode code => exact execRejectedCode_effect code s
  | leadInEnd => exact execLeadInEnd_effect s
  | responseByteShiftedOut => exact execResponseByteShiftedOut_effect s
  | readStatus | readEvent | readPeers | readTable | readQueue | readCounters | commandCodeComplete c =>
    exact ⟨_, rfl, .code _⟩

/-! ### Frames of the effects -/

theorem State.advanceTo_endPull_frame (s : State) (c : Settings) (v : Nat) :
    s.onlyChanges (s.advanceTo c v).endPull [.timer, .engine] :=
  State.onlyChanges_comp (s.advanceTo_frame c v) (State.setTimer_frame _ _) (by decide)

theorem State.setTx_frame (s : State) (tx : Transmitter) : s.onlyChanges (s.setTx tx) [.bus] := s.setBus_frame _

theorem State.settle_frame (s : State) (kind : WindowKind) (k : Nat) (r : WindowRecord) :
    s.onlyChanges (s.settle kind k r) [.bus, .counters] :=
  State.onlyChanges_comp (s.setBus_frame _) (State.countRecord_frame _ r) (by decide)

theorem State.startSlot_frame (s : State) (c : Settings) (k : Nat) : s.onlyChanges (s.startSlot c k) [.demand, .engine] := by
  intro b hb; cases b <;> simp_all [Block.same, State.startSlot]

theorem State.engineSlotEnd_onlyChanges (s : State) (c : Settings) (k : Nat) :
    s.onlyChanges (s.engineSlotEnd c k) [.demand, .engine, .events, .counters] := by
  unfold State.engineSlotEnd
  split
  · split
    · exact s.endExposure_frame c _ _
    · split
      · exact State.onlyChanges_mono (s.setEngine_frame _) (by decide)
      · exact s.onlyChanges_refl _
  · exact s.onlyChanges_refl _

theorem State.edgeTime_playEdges_frame (s : State) (c : Settings) (r : RunningPattern) (offset fine : Nat) :
    s.onlyChanges ((s.edgeTime c r offset fine).playEdges c r offset fine) [.timer, .engine] :=
  State.onlyChanges_comp (s.advanceClock_frame c _ _) (State.setEngine_frame _ _) (by decide)

theorem State.openOwnClaim_frame (s : State) (c : Settings) :
    s.onlyChanges (s.openOwnClaim c) [.bus, .membership, .agree, .demand, .events, .counters] := by
  have h := State.onlyChanges_comp (s.openWindow_frame .claim s.me) (State.ownWindowReaction_frame _ c)
    (m := [.bus, .membership, .agree, .demand, .events, .counters]) (by decide)
  unfold State.openOwnClaim
  dsimp only
  split
  · exact State.onlyChanges_comp h (State.startLeadIn_frame _ _) (by decide)
  · exact h

/-- No effect changes the queue. -/
theorem Effect.pending {s t : State} (h : Effect s t) : t.pending = s.pending := by
  have hkeep {u v : State} {l : List Block} (hf : u.onlyChanges v l) (hl : Block.pending ∉ l) : v.pending = u.pending :=
    hf .pending hl
  cases h with
  | stay | reset | beginLoad | granule | failLoad | fall | passOver | hold | pullEnd | rise | silence | openPeer
  | openOwnDigest | leadInEnd | noVote | slotStart | samples | port => rfl
  | load a b => exact hkeep (s.completeLoad_frame a b) (by decide)
  | mark => exact hkeep (s.takeMark_frame _ _ _ _) (by decide)
  | expire => exact (hkeep (State.takeMark_frame _ _ _ _ _) (by decide)).trans rfl
  | riseStart => exact (hkeep (State.takeMark_frame _ _ _ _ _) (by decide)).trans rfl
  | busFault => exact (hkeep (State.takeBusFault_frame _ _) (by decide)).trans rfl
  | selfStart => exact (hkeep (State.takeMark_frame _ _ _ _ _) (by decide)).trans rfl
  | openOwnClaim => exact (hkeep (State.openOwnClaim_frame _ _) (by decide)).trans rfl
  | sent c kind i =>
    exact (hkeep (State.setTx_frame _ _) (by decide)).trans (hkeep (s.advanceClock_frame c _ _) (by decide))
  | collide c kind i => exact hkeep (s.collide_frame c kind i) (by decide)
  | settleOwn => exact (hkeep (State.settle_frame _ _ _ _) (by decide)).trans rfl
  | settlePeer =>
    exact (hkeep (State.handRecord_frame _ _ _ _) (by decide)).trans ((hkeep (State.settle_frame _ _ _ _) (by decide)).trans rfl)
  | close => exact (hkeep (State.closeClaims_frame _ _) (by decide)).trans rfl
  | allocate => exact hkeep (s.completeAllocation_frame _) (by decide)
  | vote => exact (hkeep (State.vote_frame _ _ _) (by decide)).trans rfl
  | slotEnd => exact (hkeep (State.engineSlotEnd_onlyChanges _ _ _) (by decide)).trans rfl
  | patternEdge => exact hkeep (s.edgeTime_playEdges_frame _ _ _ _) (by decide)
  | arrive => exact (hkeep (State.arrive_frame _ _) (by decide)).trans rfl
  | endTransaction => exact hkeep s.endTransaction_frame (by decide)
  | code code => exact hkeep (s.completeCode_frame code) (by decide)

/-! ### Completion -/

/-- A command whose answer is known completes with what holds of that answer. -/
theorem Completes.of_eq {i : Instr} {s t : State} {p : State → Prop} (h : exec i s = .next t) (ht : p t) : Completes i s p :=
  ⟨t, h, ht⟩

theorem Completes.imp {i : Instr} {s : State} {p q : State → Prop} (h : Completes i s p) (hpq : ∀ t, p t → q t) :
    Completes i s q :=
  let ⟨t, ht, hp⟩ := h
  ⟨t, ht, hpq t hp⟩

/-- A command has one outcome: what completes with `p` and with `q` completes with both. -/
theorem Completes.and {i : Instr} {s : State} {p q : State → Prop} (h : Completes i s p) (h' : Completes i s q) :
    Completes i s (fun t => p t ∧ q t) := by
  obtain ⟨t, ht, hp⟩ := h
  obtain ⟨u, hu, hq⟩ := h'
  obtain rfl : t = u := by rw [ht] at hu; cases hu; rfl
  exact ⟨t, ht, hp, hq⟩

end Sys2Proof.Machine

namespace Sys2Proof.Proofs

open Sys2Proof.Machine

/-- Settles O1: by the definition of a step on a queue that is not empty. -/
theorem stepRunsFrontCommand : Obligations.StepRunsFrontCommand := fun _ _ _ => rfl

/-- Settles O3: every command has an effect, and no effect changes the queue. -/
theorem everyCommandCompletes : Obligations.EveryCommandCompletes := by
  unfold Obligations.EveryCommandCompletes
  exact fun i s => (exec_effect i s).imp fun _ h => h.pending

end Sys2Proof.Proofs
end

section
/-! The sizes of the collections (O56) and the laws at reset (O55): first how a law is carried through a step, then what each
shared operation does to the sizes. -/

namespace Sys2Proof.Machine

/-! ### Laws and steps -/

/-- All a step can do, but for what it leaves in the queue: the effect of the front command, or, with none waiting, a REFCLK period
in the blocks that have one (R1, R134). -/
inductive StepEffect (s : State) : State → Prop
  | command (t : State) (h : Effect s t) : StepEffect s t
  | clock (c : Settings) (hc : s.cfg = some c) : StepEffect s (s.clock c)
  | bootClock (hc : s.cfg = none) : StepEffect s { s with loader := s.loader.clock }

theorem State.idle_of_some {s : State} {c : Settings} (h : s.cfg = some c) :
    s.idle = { s.clock c with pending := (s.clock c).pending ++ (s.clock c).due c } := by
  simp only [State.idle, h]

theorem State.idle_of_none {s : State} (h : s.cfg = none) :
    s.idle = { s with loader := s.loader.clock, pending := s.pending ++ s.dueLoad } := by
  simp only [State.idle, h]

theorem step_effect {s t : State} (h : step s = .next t) :
    ∃ q q' u, StepEffect { s with pending := q } u ∧ t = { u with pending := q' } := by
  unfold step at h
  split at h
  · next i rest _ =>
    obtain ⟨u, hu, he⟩ := exec_effect i { s with pending := rest }
    rw [h] at hu; cases hu
    exact ⟨rest, _, _, .command _ he, rfl⟩
  · cases h
    rcases Option.eq_none_or_eq_some s.cfg with hc | ⟨c, hc⟩
    · exact ⟨s.pending, _, _, .bootClock hc, State.idle_of_none hc⟩
    · exact ⟨s.pending, _, _, .clock c hc, State.idle_of_some hc⟩

/-- A property that does not read the queue and that every effect brings about holds after every step. -/
theorem step_keeps {P Q : State → Prop} (hP : ∀ s q, P s → P { s with pending := q })
    (hQ : ∀ s q, Q s → Q { s with pending := q }) (he : ∀ s t, P s → StepEffect s t → Q t) {s t : State} (hs : P s)
    (h : step s = .next t) : Q t := by
  obtain ⟨q, q', u, hu, rfl⟩ := step_effect h
  exact hQ _ _ (he _ _ (hP _ _ hs) hu)

theorem PatternEngine.elapse_mode (e : PatternEngine) (n : Nat) : (e.elapse n).mode = e.mode := by
  unfold PatternEngine.elapse; split <;> rfl

theorem PatternEngine.elapse_levels (e : PatternEngine) (n : Nat) : (e.elapse n).levels = e.levels := by
  unfold PatternEngine.elapse; split <;> rfl

/-- A REFCLK period changes the Frame Timer and the rest between exposures alone (R1, R126). -/
theorem State.clock_frame (s : State) (c : Settings) : s.onlyChanges (s.clock c) [.timer, .engine] := by
  unfold State.clock
  split
  · exact s.onlyChanges_refl _
  · split
    · intro b hb; cases b <;> simp_all [Block.same]
    · exact s.elapse_frame c 1

/-! ### Sizes -/

/-- The sizes are read from these blocks. -/
theorem State.Sized.congr {s t : State} (hs : s.Sized) {l : List Block} (h : s.onlyChanges t l)
    (hl : ∀ b ∈ [Block.events, .demand, .membership, .bus, .agree], b ∉ l) : t.Sized := by
  have he : t.events = s.events := h .events (hl _ (by decide))
  have hd : t.demand = s.demand := h .demand (hl _ (by decide))
  have hm : t.membership = s.membership := h .membership (hl _ (by decide))
  have hb : t.bus = s.bus := h .bus (hl _ (by decide))
  have ha : t.agree = s.agree := h .agree (hl _ (by decide))
  simpa only [State.Sized, he, hd, hm, hb, ha] using hs

theorem State.Sized.offer {s : State} (h : s.Sized) (r : EventRecord) : (s.offer r).Sized := by
  obtain ⟨he, hrest⟩ := h
  exact ⟨EventQueue.offer_length_le _ _ he, hrest⟩

theorem State.Sized.offerAll {s : State} (h : s.Sized) (rs : List EventRecord) : (s.offerAll rs).Sized := by
  obtain ⟨he, hrest⟩ := h
  exact ⟨EventQueue.foldl_offer_length_le _ _ he, hrest⟩

theorem State.Sized.count {s : State} (h : s.Sized) (n : CounterName) (m : Nat) : (s.count n m).Sized := h

theorem State.Sized.setDemand {s : State} (h : s.Sized) {q : DemandQueue} (he : q.entries.length ≤ 12)
    (hc : q.claimRecord.length ≤ 4) : { s with demand := q }.Sized := by
  obtain ⟨hev, -, -, hrest⟩ := h
  exact ⟨hev, he, hc, hrest⟩

theorem State.Sized.setMembership {s : State} (h : s.Sized) {m : Membership} (hm : m.peers.length = 16) :
    { s with membership := m }.Sized := by
  obtain ⟨hev, he, hc, -, hrest⟩ := h
  exact ⟨hev, he, hc, hm, hrest⟩

theorem State.Sized.peers {s : State} (h : s.Sized) : s.membership.peers.length = 16 := by
  obtain ⟨-, -, -, hp, -⟩ := h
  exact hp

theorem State.Sized.setAgree {s : State} (h : s.Sized) {a : Agreement} (ha : a.store.length = 16) :
    { s with agree := a }.Sized := by
  obtain ⟨hev, he, hc, hp, hcr, hdr, -⟩ := h
  exact ⟨hev, he, hc, hp, hcr, hdr, ha⟩

theorem State.Sized.store {s : State} (h : s.Sized) : s.agree.store.length = 16 := by
  obtain ⟨-, -, -, -, -, -, ha⟩ := h
  exact ha

theorem DemandQueue.drop_length_le (q : DemandQueue) (it : ExposureItem) :
    (q.drop it).entries.length ≤ q.entries.length := by
  simp only [DemandQueue.drop]
  split
  · exact List.length_filter_le _ _
  · exact Nat.le_refl _

theorem State.Sized.dropItem {s : State} (h : s.Sized) (it : ExposureItem) : { s with demand := s.demand.drop it }.Sized := by
  have ⟨_, he, hc, _⟩ := h
  exact h.setDemand (Nat.le_trans (s.demand.drop_length_le it) he) hc

theorem State.Sized.retire {s : State} (h : s.Sized) (slot channel : Nat) : (s.retire slot channel).Sized := by
  unfold State.retire
  split
  · exact (State.Sized.count (h.dropItem _) _ _).offer _
  · exact h

theorem State.Sized.abortItem {s : State} (h : s.Sized) : s.abortItem.Sized := by
  unfold State.abortItem
  split
  · exact (State.Sized.count (h.dropItem _) _ _).offer _
  · exact h

theorem State.Sized.cancelQueue {s : State} (h : s.Sized) : s.cancelQueue.Sized :=
  (State.Sized.setDemand h.abortItem (by simp) (by simp)).offerAll _

theorem State.Sized.exitMember {s : State} (h : s.Sized) : s.exitMember.Sized := by
  unfold State.exitMember
  split
  · exact State.Sized.setMembership (h.cancelQueue.setAgree h.cancelQueue.store) h.cancelQueue.peers
  · exact h

theorem State.Sized.enterListening {s : State} (h : s.Sized) : s.enterListening.Sized :=
  State.Sized.setMembership (m := { s.exitMember.membership.clearPeers with
    station := .listening, observation := .unaligned, listenRef := none, streak := 0, joiningSent := 0,
    joiningFrames := 0, leavePending := false }) h.exitMember (by simp [Membership.clearPeers])

theorem State.Sized.enterLeaving {s : State} (h : s.Sized) : s.enterLeaving.Sized :=
  h.exitMember.setMembership h.exitMember.peers

theorem State.Sized.enterJoining {s : State} (h : s.Sized) : s.enterJoining.Sized := h

theorem State.Sized.enterMember {s : State} (h : s.Sized) : s.enterMember.Sized := State.Sized.offer (s := { s with
  membership := { s.membership with station := .member, foreignOnly := 0, joiningSent := 0, joiningFrames := 0 } }) h _

theorem State.Sized.enterOffline {s : State} (h : s.Sized) : s.enterOffline.Sized :=
  State.Sized.offer (s := { s with membership := s.membership.withdraw .offline none, timer := { s.timer with silence := 0 } })
    (h.setMembership (m := s.membership.withdraw .offline none) (by simp [Membership.withdraw, Membership.clearPeers])) _

theorem State.Sized.enterIsolated {s : State} (h : s.Sized) (why : IsolationReason) : (s.enterIsolated why).Sized := by
  have hleave (u : State) (hu : u.Sized) : { u with
      membership := u.membership.withdraw .isolated (some why), timer := { u.timer with silence := 0 } }.Sized :=
    hu.setMembership (m := u.membership.withdraw .isolated (some why)) (by simp [Membership.withdraw, Membership.clearPeers])
  unfold State.enterIsolated
  dsimp only
  split
  · split
    · exact hleave _ (h.offer _).exitMember
    · exact hleave _ (h.exitMember.offer _)
  · exact hleave _ (h.offer _)

theorem ageEntries_length_le (c : Settings) (l : List DemandEntry) : (ageEntries c l).length ≤ l.length := by
  rw [ageEntries, List.length_map]
  exact List.length_filter_le _ _

theorem State.Sized.demandMark {s : State} (h : s.Sized) (c : Settings) (cls : MarkClass) : (s.demandMark c cls).Sized := by
  have hage (u : State) (hu : u.Sized) (rs : List EventRecord) (n : Nat) : (({ u with demand := { u.demand with
      entries := ageEntries c (u.demand.entries.map (fun e => { e with bound := none })), claimRecord := [],
      exposures := [] } } : State).count .expiries n |>.offerAll rs).Sized := by
    have ⟨_, he, _⟩ := hu
    refine (State.Sized.count (hu.setDemand ?_ (by simp)) _ _).offerAll _
    exact Nat.le_trans (ageEntries_length_le c _) (by simpa using he)
  unfold State.demandMark
  dsimp only
  split
  · exact hage _ h.abortItem _ _
  · exact hage _ h _ _

theorem State.Sized.endExposure {s : State} (h : s.Sized) (c : Settings) (r : RunningPattern) (e : Bool) :
    (s.endExposure c r e).Sized :=
  State.Sized.retire (s := { s with engine := PatternEngine.rest c e }) h _ _

theorem State.Sized.engineMark {s : State} (h : s.Sized) (c : Settings) (cls : MarkClass) : (s.engineMark c cls).Sized := by
  unfold State.engineMark
  split
  · exact h.congr (s.abortEngine_frame c) (by decide)
  · exact h.endExposure c _ _
  · exact h

theorem State.Sized.membershipMark {s : State} (h : s.Sized) (cls : MarkClass) (selfStart : Bool) :
    (s.membershipMark cls selfStart).Sized := by
  have hf : { s with membership := s.membership.formHeardMap }.Sized :=
    h.setMembership (by simpa [Membership.formHeardMap] using h.peers)
  unfold State.membershipMark
  dsimp only
  split
  · split
    · exact hf
    · split
      · exact hf
      · exact hf
  · exact hf.enterOffline
  · exact hf

theorem State.Sized.takeMark {s : State} (h : s.Sized) (c : Settings) (cls : MarkClass) (selfStart pulls : Bool) :
    (s.takeMark c cls selfStart pulls).Sized := by
  unfold State.takeMark
  extract_lets s0 s1 s2 s3 s4
  have h0 : s0.Sized := by
    unfold s0
    split
    · exact (h.count _ _).offer _
    · exact h
  have h1 : s1.Sized := h0
  have ⟨he, hen, hc, hp, _⟩ := ((h1.engineMark c cls).demandMark c cls).membershipMark cls selfStart
  exact ⟨he, hen, hc, hp, rfl, rfl, rfl⟩

theorem State.Sized.phase {s : State} (h : s.Sized) (c : Settings) (place v : Nat) {react : State → State}
    (hr : ∀ u : State, u.Sized → (react u).Sized) : (s.phase c place v react).Sized := by
  rcases s.phase_cases c place v react with ⟨-, e⟩ | ⟨-, -, -, e⟩ | ⟨-, -, e⟩ <;> rw [e]
  · exact h
  · exact hr _ h
  · exact h

theorem State.Sized.takeBusFault {s : State} (h : s.Sized) (c : Settings) : (s.takeBusFault c).Sized := by
  have h1 : ((s.count .busFaults 1).offer { kind := .busFault, frame := s.timer.frame }).Sized := (h.count _ _).offer _
  have h2 : (((s.count .busFaults 1).offer { kind := .busFault, frame := s.timer.frame }).faultStation).Sized := by
    unfold State.faultStation
    split
    · exact h1.enterListening
    · exact h1.enterListening
    · exact h1.enterOffline
    · exact h1
    · exact h1
  have h3 := h2.congr (State.abortEngine_frame _ c) (by decide)
  exact h3

theorem State.Sized.engineSlotEnd {s : State} (h : s.Sized) (c : Settings) (k : Nat) : (s.engineSlotEnd c k).Sized := by
  unfold State.engineSlotEnd
  split
  · split
    · exact h.endExposure c _ _
    · split
      · exact h
      · exact h
  · exact h

theorem State.Sized.arrive {s : State} (h : s.Sized) (cls : Nat) : (s.arrive cls).Sized := by
  have ⟨_, _, hc, _⟩ := h
  unfold State.arrive
  split
  · split
    · exact h.setDemand (by simpa [DemandQueue.accept] using ‹_›) hc
    · exact (h.count _ _).offer _
  · split
    · exact h
    · exact h

/-- A class makes one claim at most, so the four make no more than four (R102, R105). -/
theorem claimOf_length_le (c : Settings) (entries : List DemandEntry) (cls : Nat) : (claimOf c entries cls).length ≤ 1 := by
  unfold claimOf
  dsimp only
  split
  · simp
  · simp
  · split <;> simp

theorem claimsOf_length_le (c : Settings) (entries : List DemandEntry) : (claimsOf c entries).length ≤ 4 := by
  have h0 := claimOf_length_le c entries 0
  have h1 := claimOf_length_le c entries 1
  have h2 := claimOf_length_le c entries 2
  have h3 := claimOf_length_le c entries 3
  simp only [claimsOf, List.flatMap_cons, List.flatMap_nil, List.append_nil, List.length_append]
  omega

theorem State.Sized.ownWindowReaction {s : State} (h : s.Sized) (c : Settings) : (s.ownWindowReaction c).Sized := by
  have ⟨_, he, _⟩ := h
  unfold State.ownWindowReaction
  split
  · split
    · exact h.enterLeaving
    · exact h.setDemand he (claimsOf_length_le c _)
  · exact h.setDemand he (by simp)

theorem State.Sized.countRecord {s : State} (h : s.Sized) (r : WindowRecord) : (s.countRecord r).Sized :=
  h.congr (s.countRecord_frame r) (by decide)

theorem State.Sized.handRecord {s : State} (h : s.Sized) (kind : WindowKind) (k : Nat) (r : WindowRecord) :
    (s.handRecord kind k r).Sized := by
  unfold State.handRecord
  split
  · split
    · exact h.setMembership (by simpa using h.peers)
    · exact h
  · exact h.setAgree (by simpa using h.store)
  · exact h

theorem State.Sized.settleWindow {s : State} (h : s.Sized) (kind : WindowKind) (k : Nat) (r : WindowRecord) :
    { s with bus := s.bus.write kind k r }.Sized := by
  obtain ⟨he, hen, hc, hp, hcr, hdr, hst⟩ := h
  cases kind with
  | claim => exact ⟨he, hen, hc, hp, by simpa [BusInterface.write] using hcr, hdr, hst⟩
  | digest => exact ⟨he, hen, hc, hp, hcr, by simpa [BusInterface.write] using hdr, hst⟩

theorem State.Sized.updatePeers {s : State} (h : s.Sized) : s.updatePeers.Sized :=
  State.Sized.offerAll (h.setMembership (m := { s.membership with
    peers := (List.range 16).map (fun k => (s.updatedPeer k).1) }) (by simp)) _

/-- The Membership Unit keeps its sixteen peers in a new state with the same table. -/
theorem State.Sized.setMembership_of_eq {s : State} (h : s.Sized) (m : Membership) (hm : m.peers = s.membership.peers) :
    (s.setMembership m).Sized :=
  h.setMembership (hm ▸ h.peers)

theorem State.Sized.applyReference {s : State} (h : s.Sized) : s.applyReference.1.Sized := by
  rcases s.applyReference_cases with e | ⟨f, e⟩ | ⟨f, r, e⟩ <;> rw [e]
  · exact h
  · exact h.setMembership_of_eq _ rfl
  · exact State.Sized.offer (s := { s with timer := { s.timer with frame := f } }) h r

theorem State.Sized.checkDuplicate {s : State} (h : s.Sized) : s.checkDuplicate.Sized := by
  rcases s.checkDuplicate_cases with ⟨-, e⟩ | ⟨n, -, ⟨-, e⟩ | ⟨-, e⟩⟩ <;> rw [e]
  · exact h
  · exact h.setMembership_of_eq _ rfl
  · exact (h.setMembership_of_eq { s.membership with streak := n } rfl).enterIsolated _

theorem State.Sized.checkConfig {s : State} (h : s.Sized) : s.checkConfig.Sized := by
  rcases s.checkConfig_cases with e | ⟨-, n, e | e⟩ <;> rw [e]
  · exact h
  · exact h.setMembership_of_eq _ rfl
  · exact (h.setMembership_of_eq { s.membership with foreignOnly := n } rfl).enterIsolated _

theorem State.Sized.checkJoining {s : State} (h : s.Sized) : s.checkJoining.Sized := by
  rcases s.checkJoining_cases with e | ⟨-, n, e | ⟨r, e⟩ | ⟨m, e⟩⟩ <;> rw [e]
  · exact h
  · exact (h.setMembership_of_eq { s.membership with joiningSent := n } rfl).enterMember
  · exact ((h.setMembership_of_eq { s.membership with joiningSent := n } rfl).offer r).enterListening
  · exact h.setMembership_of_eq _ rfl

theorem State.Sized.membershipClose {s : State} (h : s.Sized) : s.membershipClose.1.Sized := by
  unfold State.membershipClose
  split
  · exact h.updatePeers.applyReference.checkDuplicate.checkConfig.checkJoining
  · exact h

theorem bindOldest_length (cls slot channel : Nat) (l : List DemandEntry) :
    (bindOldest cls slot channel l).1.length = l.length := by
  induction l with
  | nil => rfl
  | cons e l ih => unfold bindOldest; split <;> simp [ih]

theorem bindCell_length (c : Settings) (q : DemandQueue) (slot channel cls : Nat) :
    (bindCell c q slot channel cls).entries.length = q.entries.length := by
  unfold bindCell
  dsimp only
  split
  · exact bindOldest_length ..
  · rfl

theorem foldl_bindCell_sizes (c : Settings) (l : List (Nat × Nat × Nat)) (q : DemandQueue) :
    (l.foldl (fun q p => bindCell c q p.1 p.2.1 p.2.2) q).entries.length = q.entries.length ∧
    (l.foldl (fun q p => bindCell c q p.1 p.2.1 p.2.2) q).claimRecord = q.claimRecord := by
  induction l generalizing q with
  | nil => exact ⟨rfl, rfl⟩
  | cons p l ih =>
    obtain ⟨hl, hc⟩ := ih (bindCell c q p.1 p.2.1 p.2.2)
    exact ⟨hl.trans (bindCell_length ..), hc⟩

theorem State.Sized.bind {s : State} (h : s.Sized) (c : Settings) : (s.bind c).Sized := by
  have ⟨_, he, hc, _⟩ := h
  obtain ⟨hl, hcl⟩ := foldl_bindCell_sizes c (s.ownPart0 c) s.demand
  exact h.setDemand (by rw [hl]; exact he) (by rw [hcl]; exact hc)

theorem State.Sized.vote {s : State} (h : s.Sized) (c : Settings) (own : Half) : (s.vote c own).Sized := by
  unfold State.vote
  extract_lets v a s1
  have h1 : s1.Sized := h
  split
  · exact h1.bind c
  · exact (h1.count _ _).offer _

theorem State.Sized.takeCommand {s : State} (h : s.Sized) (c : PortCommand) : (s.takeCommand c).1.Sized := by
  cases c with
  | clearCounters => exact h
  | leave =>
    simp only [State.takeCommand, State.takeLeave]
    split
    · exact h
    · exact h.enterOffline
    · exact h.enterOffline
    · exact h
  | rejoin =>
    simp only [State.takeCommand, State.takeRejoin]
    split
    · exact h.enterListening
    · split
      · exact h
      · exact h
    · exact h

theorem State.Sized.endTransaction {s : State} (h : s.Sized) : s.endTransaction.Sized := by
  have ha : s.endAction.Sized := by
    unfold State.endAction
    split
    · split
      · split
        · exact h
        · exact h
      · split
        · obtain ⟨he, hrest⟩ := h
          exact ⟨by simp only [List.length_tail]; omega, hrest⟩
        · exact h
      · exact h.takeCommand _
      · exact h
    · exact h
  exact ha

theorem State.Sized.completeCode {s : State} (h : s.Sized) (code : Byte) : (s.completeCode code).Sized := by
  unfold State.completeCode State.classifyCode
  split
  · split <;> exact h
  · exact h

theorem State.Sized.reset : State.reset.Sized := by unfold State.Sized; decide

theorem State.Sized.assertReset (s : State) : s.assertReset.Sized := State.Sized.reset

theorem State.Sized.openOwnClaim {s : State} (h : s.Sized) (c : Settings) : (s.openOwnClaim c).Sized := by
  have hw : (s.openWindow .claim s.me).Sized := h
  unfold State.openOwnClaim
  dsimp only
  split <;> exact hw.ownWindowReaction c

theorem State.Sized.toSample {s : State} (h : s.Sized) (c : Settings) (kind : WindowKind) (i : Nat) :
    (s.toSample c kind i).Sized :=
  h.congr (s.advanceClock_frame c _ _) (by decide)

theorem State.Sized.setTx {s : State} (h : s.Sized) (tx : Transmitter) : (s.setTx tx).Sized := h

theorem State.Sized.settle {s : State} (h : s.Sized) (kind : WindowKind) (k : Nat) (r : WindowRecord) :
    (s.settle kind k r).Sized :=
  (h.settleWindow kind k r).countRecord r

theorem State.Sized.setFilter {s : State} (h : s.Sized) (input : TrgInput) (f : TrgFilter) : (s.setFilter input f).Sized := by
  have ⟨_, he, hc, _⟩ := h
  cases input <;> exact h.setDemand he hc

theorem State.Sized.startSlot {s : State} (h : s.Sized) (c : Settings) (k : Nat) : (s.startSlot c k).Sized := by
  have ⟨_, he, hc, _⟩ := h
  unfold State.startSlot
  split <;> exact State.Sized.setDemand h he hc

theorem State.Sized.closeClaims {s : State} (h : s.Sized) (c : Settings) : (s.closeClaims c).Sized := by
  have hm := h.membershipClose
  exact hm.setAgree (a := { s.membershipClose.1.agree with adoption := s.membershipClose.2 }) hm.store

theorem State.Sized.completeAllocation {s : State} (h : s.Sized) (c : Settings) : (s.completeAllocation c).Sized := by
  unfold State.completeAllocation
  dsimp only
  split <;> exact h

theorem State.Sized.completeLoad {s : State} (h : s.Sized) (a b : Bool) : (s.completeLoad a b).Sized := by
  unfold State.completeLoad
  extract_lets c
  exact State.Sized.enterListening h

/-- Every effect keeps the sizes. -/
theorem Effect.sized {s t : State} (h : Effect s t) (hs : s.Sized) : t.Sized := by
  cases h with
  | stay | beginLoad | granule | failLoad | fall | passOver | hold | pullEnd | rise | silence | openPeer
  | openOwnDigest | leadInEnd | noVote | port => exact hs
  | reset => exact State.Sized.assertReset s
  | load a b => exact hs.completeLoad a b
  | mark | selfStart => exact hs.takeMark _ _ _ _
  | expire c => exact State.Sized.takeMark (s := s.reach c _ _) hs _ _ _ _
  | riseStart => exact State.Sized.takeMark (s := s.riseFrm) hs _ _ _ _
  | busFault c => exact State.Sized.takeBusFault (s := s.elapse c _) hs c
  | openOwnClaim c => exact State.Sized.openOwnClaim (s := s.reach c _ _) hs c
  | sent => exact hs.toSample _ _ _
  | collide c kind i =>
    exact State.Sized.offer (State.Sized.count ((hs.toSample c kind i).setTx (.done kind .collided)) .collisions 1) _
  | settleOwn c kind line v => exact State.Sized.settle (s := s.advanceTo c v) hs _ _ _
  | settlePeer c kind k line v => exact (State.Sized.settle (s := s.advanceTo c v) hs _ _ _).handRecord _ _ _
  | close c => exact State.Sized.closeClaims (s := s.reach c _ _) hs c
  | allocate c => exact hs.completeAllocation c
  | vote c own => exact State.Sized.vote (s := s.reach c _ _) hs c own
  | slotStart c k => exact State.Sized.startSlot (s := s.reach c _ _) hs c k
  | slotEnd c k => exact State.Sized.engineSlotEnd (s := s.reach c _ _) hs c k
  | patternEdge => exact hs.congr (s.edgeTime_playEdges_frame _ _ _ _) (by decide)
  | samples => exact hs.setFilter _ _
  | arrive => exact (hs.setFilter _ _).arrive _
  | endTransaction => exact hs.endTransaction
  | code code => exact hs.completeCode code

theorem StepEffect.sized {s t : State} (h : StepEffect s t) (hs : s.Sized) : t.Sized := by
  cases h with
  | command _ h => exact h.sized hs
  | clock c => exact hs.congr (s.clock_frame c) (by decide)
  | bootClock => exact hs

end Sys2Proof.Machine

namespace Sys2Proof.Proofs

open Sys2Proof.Machine

/-- Settles O56. -/
theorem stepKeepsSizes : Obligations.StepKeepsSizes := by
  unfold Obligations.StepKeepsSizes
  exact fun _ _ hs h => step_keeps (fun _ _ h => h) (fun _ _ h => h) (fun _ _ hs he => he.sized hs) hs h

end Sys2Proof.Proofs
end

section
/-! The start-up image (O6 to O10): bits and bytes at the boot port, the headers, the merge, and the tests of CHECKING on the bytes
of the merged image. -/

namespace Sys2Proof.Machine

/-! ### Bits and bytes (R134, R147) -/

theorem natOfBitsLsbFirst_testBit (l : List Bool) (i : Nat) : (natOfBitsLsbFirst l).testBit i = l.getD i false := by
  induction l generalizing i with
  | nil => simp [natOfBitsLsbFirst]
  | cons b bs ih =>
    cases i with
    | zero => cases b <;> simp [natOfBitsLsbFirst, Nat.testBit_zero]
    | succ i =>
      have hhalf : (b.toNat + 2 * natOfBitsLsbFirst bs) / 2 = natOfBitsLsbFirst bs := by have := b.toNat_lt; omega
      rw [natOfBitsLsbFirst, Nat.testBit_succ, hhalf, ih]
      simp

/-- A byte is the number of its bits. -/
theorem ofNat_natOfBitsLsbFirst (l : List Bool) (b : Byte) (h : ∀ i, i < 8 → l.getD i false = b.getLsbD i) :
    BitVec.ofNat 8 (natOfBitsLsbFirst l) = b :=
  BitVec.eq_of_getLsbD_eq fun i hi => by
    rw [BitVec.getLsbD_ofNat, natOfBitsLsbFirst_testBit, h i hi]
    simp [hi]

theorem byteOfLevels_bitsMsbFirst (b : Byte) (rest : List Bool) : byteOfLevels (bitsMsbFirst b ++ rest) = b := by
  refine ofNat_natOfBitsLsbFirst _ b fun i hi => ?_
  match i, hi with
  | 0, _ | 1, _ | 2, _ | 3, _ | 4, _ | 5, _ | 6, _ | 7, _ => rfl

/-- Sixteen levels of eight bits each, the most significant first, give the bytes they are the bits of. -/
theorem bytesOfLevels_flatMap (bytes : List Byte) : bytesOfLevels bytes.length (bytes.flatMap bitsMsbFirst) = bytes := by
  induction bytes with
  | nil => rfl
  | cons b bytes ih =>
    rw [List.flatMap_cons, List.length_cons, bytesOfLevels, byteOfLevels_bitsMsbFirst]
    exact congrArg (b :: ·) ih

theorem bitsMsbFirst_getD (b : Byte) {j : Nat} (h : j < 8) : (bitsMsbFirst b).getD j false = b.getLsbD (7 - j) := by
  match j, h with
  | 0, _ | 1, _ | 2, _ | 3, _ | 4, _ | 5, _ | 6, _ | 7, _ => rfl

/-- Bit `j` of byte `n` stands at place 8n + j. -/
theorem flatMap_bitsMsbFirst_getD {bytes : List Byte} {n j : Nat} {b : Byte} (h : bytes[n]? = some b) (hj : j < 8) :
    (bytes.flatMap bitsMsbFirst).getD (8 * n + j) false = b.getLsbD (7 - j) := by
  induction bytes generalizing n with
  | nil => cases h
  | cons x bytes ih =>
    rw [List.flatMap_cons]
    cases n with
    | zero =>
      cases h
      rw [List.getD_append _ _ _ _ (by rw [Nat.mul_zero, Nat.zero_add]; exact hj), Nat.mul_zero, Nat.zero_add]
      exact bitsMsbFirst_getD _ hj
    | succ n =>
      have hlen : (bitsMsbFirst x).length = 8 := rfl
      rw [List.getD_append_right _ _ _ _ (by omega), hlen, show 8 * (n + 1) + j - 8 = 8 * n + j by omega]
      exact ih h

theorem byteAt_append_left (l r : List Byte) (i : Nat) (h : i < l.length) : byteAt (l ++ r) i = byteAt l i := by
  simp [byteAt, List.getD_eq_getElem?_getD, List.getElem?_append_left h]

/-- Every byte of a list after a place is 0 where the byte at each place from there on is. -/
theorem forall_mem_drop_iff (l : List Byte) (n m : Nat) (x : Byte) (h : l.length = m) :
    (∀ y ∈ l.drop n, y = x) ↔ ∀ i, n ≤ i → i < m → byteAt l i = x := by
  constructor
  · intro hall i hi hm
    have hg : l[i]? = some (byteAt l i) := by simp [byteAt, List.getD_eq_getElem?_getD, h, hm]
    exact hall _ (List.mem_of_getElem? (i := i - n) (by rw [List.getElem?_drop, Nat.add_sub_cancel' hi]; exact hg))
  · intro hall y hy
    obtain ⟨i, hi⟩ := List.getElem?_of_mem hy
    rw [List.getElem?_drop] at hi
    have hlt : n + i < l.length := (List.getElem?_eq_some_iff.mp hi).1
    have := hall (n + i) (Nat.le_add_right n i) (h ▸ hlt)
    simpa [byteAt, List.getD_eq_getElem?_getD, hi] using this

/-! ### The boot port (R134, R135) -/

theorem exec_granuleRead_of_boot {s : State} (h : s.loader.boot.isSome = true) (bytes : List Byte) :
    exec (.granuleRead bytes) s = .next (s.readGranule bytes) := by
  simp only [exec, execGranuleRead, h, if_true, State.readGranule]

theorem State.readGranule_frame (s : State) (bytes : List Byte) : s.onlyChanges (s.readGranule bytes) [.loader, .draws] := by
  intro b hb; cases b <;> simp_all [Block.same, State.readGranule]

/-- After a read BSEL is negated, BCLK and BDO are low, and a read that follows has a pause of 8 REFCLK periods or more before
it (R134). -/
theorem ImageLoader.pause_pins (l : ImageLoader) (n : Nat) :
    (l.pause n).bselAsserted = false ∧ (l.pause n).bclk = false ∧ (l.pause n).bdo = false ∧
      ((l.pause n).boot ≠ none → 8 ≤ (l.pause n).bootPause) := by
  have hsel : (l.pause n).bselAsserted = false := by
    cases h : l.boot <;> simp [ImageLoader.bselAsserted, ImageLoader.pause, h]
  refine ⟨hsel, by simp [ImageLoader.bclk, hsel], by simp [ImageLoader.bdo, hsel], fun hb => ?_⟩
  cases h : l.boot with
  | none => exact absurd h hb
  | some p => simp [ImageLoader.pause, h]; omega

/-- The command 03h and the address go out on BDO (R134, R135). -/
theorem bootCommand_granuleAddress {copy i : Nat} (hi : i < 128) :
    bootCommand (granuleAddress copy i) =
      [0x03, BitVec.ofNat 8 copy, BitVec.ofNat 8 (16 * i / 256), BitVec.ofNat 8 (16 * i % 256)] := by
  have h1 : (copy * 65536 + 16 * i) / 65536 = copy := by omega
  have h2 : byteOf ((copy * 65536 + 16 * i) / 256) = BitVec.ofNat 8 (16 * i / 256) :=
    BitVec.eq_of_toNat_eq (by simp only [byteOf, BitVec.toNat_ofNat]; omega)
  have h3 : byteOf (copy * 65536 + 16 * i) = BitVec.ofNat 8 (16 * i % 256) :=
    BitVec.eq_of_toNat_eq (by simp only [byteOf, BitVec.toNat_ofNat]; omega)
  simp only [bootCommand, granuleAddress]
  rw [h1, h2, h3]
  rfl

/-! ### Headers (R137, R138) -/

theorem HeaderRead.good_iff (h : HeaderRead) :
    h.good = true ↔ h.passes = true ∧ byteAt h.data 0 = 0x4B ∧ byteAt h.data 1 = 0x57 := by
  simp [HeaderRead.good, and_assoc]

theorem HeaderRead.serial_eq_iff (h h' : HeaderRead) :
    h'.serial = h.serial ↔ byteAt h'.data 3 = byteAt h.data 3 ∧ byteAt h'.data 4 = byteAt h.data 4 := by
  simp only [HeaderRead.serial, halfAt, joinBytes]
  constructor
  · intro he
    have hn : (byteAt h'.data 3 ++ byteAt h'.data 4).toNat = (byteAt h.data 3 ++ byteAt h.data 4).toNat := congrArg _ he
    simp only [BitVec.toNat_append] at hn
    have h1 := (byteAt h'.data 4).isLt
    have h2 := (byteAt h.data 4).isLt
    rw [← Nat.shiftLeft_add_eq_or_of_lt h1, ← Nat.shiftLeft_add_eq_or_of_lt h2] at hn
    simp only [Nat.shiftLeft_eq] at hn
    exact ⟨BitVec.eq_of_toNat_eq (by omega), BitVec.eq_of_toNat_eq (by omega)⟩
  · rintro ⟨h3, h4⟩
    rw [h3, h4]

/-- The format byte and the reserved bytes of a header (R138). -/
def HeaderRead.formatOk (h : HeaderRead) : Prop :=
  byteAt h.data 2 = 0x01 ∧ ∀ i, 9 ≤ i → i ≤ 14 → byteAt h.data i = 0x00

/-- The counts of a header (R138). -/
def HeaderRead.countsOk (h : HeaderRead) : Prop :=
  8 ≤ (byteAt h.data 5).toNat ∧ (byteAt h.data 5).toNat ≤ 128 ∧ byteAt h.data 6 = 1 ∧ byteAt h.data 7 = 2 ∧
    (byteAt h.data 8).toNat + 4 = (byteAt h.data 5).toNat

theorem HeaderRead.formatOk_iff {h : HeaderRead} (hl : h.data.length = 15) :
    h.formatOk ↔ ¬(byteAt h.data 2 ≠ 0x01 ∨ (h.data.drop 9).any (· != 0x00) = true) := by
  have hd := forall_mem_drop_iff h.data 9 15 0x00 hl
  simp only [HeaderRead.formatOk, not_or, not_not, List.any_eq_true, not_exists, not_and, bne_iff_ne, ne_eq]
  exact and_congr_right fun _ => ⟨fun hf => hd.mpr fun i h9 h15 => hf i h9 (by omega),
    fun hf i h9 h14 => hd.mp hf i h9 (by omega)⟩

/-- Which test of the chosen header fails, if any (R138). -/
theorem headerFailure_cases {h : HeaderRead} (hl : h.data.length = 15) :
    (h.formatOk → h.countsOk → headerFailure h = none) ∧ (¬ h.formatOk → headerFailure h = some .badFormat) ∧
    (h.formatOk → ¬ h.countsOk → headerFailure h = some .param) := by
  have hb := (byteAt h.data 8).isLt
  unfold headerFailure HeaderRead.total
  refine ⟨fun hf hc => ?_, fun hf => ?_, fun hf hc => ?_⟩
  · obtain ⟨h1, h2, h3, h4, h5⟩ := hc
    rw [if_neg ((HeaderRead.formatOk_iff hl).mp hf), if_neg (by simp only [h3, h4, ne_eq, not_true, false_or]; omega), if_neg (by omega)]
  · rw [if_pos (not_not.mp (mt (HeaderRead.formatOk_iff hl).mpr hf))]
  · rw [if_neg ((HeaderRead.formatOk_iff hl).mp hf)]
    split
    · rfl
    · next hn =>
      obtain ⟨h1, h2, h3, h4, h5⟩ : ¬ (byteAt h.data 5).toNat < 4 ∧ ¬ 128 < (byteAt h.data 5).toNat ∧ byteAt h.data 6 = 1 ∧
        byteAt h.data 7 = 2 ∧ (byteAt h.data 8).toNat = (byteAt h.data 5).toNat - 4 := by simpa only [not_or, not_not] using hn
      exact if_pos (by_contra fun hlt => hc ⟨by omega, by omega, h3, h4, by omega⟩)

/-- With both headers read, the choice of R137 and the tests of R138, in cases. -/
theorem ImageLoader.choose_cases (l : ImageLoader) (h0 h1 : HeaderRead) :
    (¬ h0.good = true → ¬ h1.good = true → l.choose h0 h1 = l.fail .noHeader) ∧
    ∀ (primary : Nat) (h : HeaderRead), (primary = 0 ∧ h = h0 ∧ h0.good = true) ∨
        (primary = 1 ∧ h = h1 ∧ ¬ h0.good = true ∧ h1.good = true) →
      ∃ fallback : Option Nat, (primary = 0 → (fallback = some 1 ↔ h1.good = true ∧ h1.serial = h0.serial)) ∧
        (primary = 1 → fallback = none) ∧
        (headerFailure h = none → l.choose h0 h1 = { l with
          chosen := some primary, fallback := fallback, granules := [{ data := h.data, copy := primary }],
          repaired := l.repaired + primary, state := .merging, boot := some (primary, 1) }) ∧
        ∀ why, headerFailure h = some why → l.choose h0 h1 = { l with
          chosen := some primary, fallback := fallback, granules := [{ data := h.data, copy := primary }],
          repaired := l.repaired + primary, boot := none, failing := some why } := by
  constructor
  · intro hn0 hn1
    simp [ImageLoader.choose, chooseHeader, hn0, hn1]
  · rintro primary h (⟨rfl, rfl, hg⟩ | ⟨rfl, rfl, hn, hg⟩)
    · refine ⟨if h1.good && h1.serial == h.serial then some 1 else none, fun _ => by simp, fun h => by simp at h,
        fun hf => ?_, fun why hf => ?_⟩ <;> simp [ImageLoader.choose, chooseHeader, hg, hf, ImageLoader.fail]
    · refine ⟨none, fun h => by simp at h, fun _ => rfl, fun hf => ?_, fun why hf => ?_⟩ <;>
        simp [ImageLoader.choose, chooseHeader, hn, hg, hf, ImageLoader.fail]

theorem ImageLoader.granule_second {l : ImageLoader} {h0 : HeaderRead} (hs : l.state = .headers) (hb : l.boot = some (1, 0))
    (hh : l.header0 = some h0) (bytes : List Byte) :
    l.granule bytes = ({ l with header1 := some (headerOf bytes) } : ImageLoader).choose h0 (headerOf bytes) := by
  simp only [ImageLoader.granule, hs, hb, hh]

/-! ### The tests of CHECKING on the bytes of the image (R141–R143) -/

theorem imageParams_iff (image : List MergedGranule) : imageParams image ↔ paramsInRange image = true := by
  simp only [imageParams, paramsInRange, Bool.and_eq_true, decide_eq_true_eq, List.all_eq_true, beq_iff_eq, and_assoc]
  rfl

/-- The source byte of a class tells its source, and a byte of 4 or more is refused (R142). -/
theorem sourceOf_eq (b : Byte) :
    (sourceOf b = .trga ↔ b.toNat = 1) ∧ (sourceOf b = .trgb ↔ b.toNat = 2) ∧ (sourceOf b = .periodic ↔ b.toNat = 3) ∧
    (b.toNat ≤ 3 → (sourceOf b = .none ↔ b.toNat = 0)) := by
  have h1 : b = 1#8 ↔ b.toNat = 1 := by rw [BitVec.toNat_eq]; simp
  have h2 : b = 2#8 ↔ b.toNat = 2 := by rw [BitVec.toNat_eq]; simp
  have h3 : b = 3#8 ↔ b.toNat = 3 := by rw [BitVec.toNat_eq]; simp
  unfold sourceOf
  simp only [BitVec.ofNat_eq_ofNat, h1, h2, h3]
  split
  · simp_all
  · split
    · simp_all
    · split
      · simp_all
      · refine ⟨by simp_all, by simp_all, by simp_all, fun _ => ⟨fun _ => by omega, fun _ => rfl⟩⟩

/-- Two source bytes, one of which names a trigger input, name the same source where they are equal (R142). -/
theorem sourceOf_inj {b b' : Byte} (h : b.toNat = 1 ∨ b.toNat = 2) : sourceOf b' = sourceOf b ↔ b'.toNat = b.toNat := by
  obtain ⟨ha, hb, -⟩ := sourceOf_eq b
  obtain ⟨ha', hb', -⟩ := sourceOf_eq b'
  rcases h with h | h
  · rw [ha.mpr h, h, ha']
  · rw [hb.mpr h, h, hb']

theorem imageClass_iff (image : List MergedGranule) (i : Nat) : imageClass image i ↔ classFails image i = false := by
  obtain ⟨ha, hb, -, hn⟩ := sourceOf_eq (sourceByte image i)
  have hfails : classFails image i = false ↔ (sourceByte image i).toNat ≤ 3 ∧
      ((sourceByte image i).toNat = 1 ∨ (sourceByte image i).toNat = 2 →
        ∀ j, j < i → sourceOf (sourceByte image j) ≠ sourceOf (sourceByte image i)) ∧
      (sourceOf (sourceByte image i) ≠ .none →
        (classRecord image i).pattern ≤ 15 ∧ (classRecord image i).priority ≤ 3 ∧
        (1 ≤ (classRecord image i).limit ∧ (classRecord image i).limit ≤ 4) ∧
        (1 ≤ (classRecord image i).maxAge ∧ (classRecord image i).maxAge ≤ 31)) := by
    rw [← ha, ← hb]
    simp only [classFails, Bool.or_eq_false_iff, Bool.and_eq_false_imp, decide_eq_false_iff_not, List.any_eq_false,
      List.mem_range, beq_iff_eq, Bool.or_eq_true, bne_iff_ne, not_le, not_lt, not_or, and_assoc]
    exact and_congr Nat.lt_succ_iff Iff.rfl
  rw [hfails]
  refine and_congr_right fun hle => and_congr ?_ (imp_congr (not_congr (hn hle).symm) Iff.rfl)
  exact imp_congr_right fun ht => forall_congr' fun j => imp_congr_right fun _ => not_congr (sourceOf_inj ht).symm

/-! ### Edges and patterns (R115, R116, R143) -/

theorem edgePool_length (image : List MergedGranule) : (edgePool image).length = 128 := by
  simp only [edgePool, List.length_append, List.length_map, List.length_range, List.length_replicate, edgeTotal]
  omega

/-- Edge `j` of the pool: loaded, or all fields 0 (R143). -/
theorem edgePool_getElem? (image : List MergedGranule) {j : Nat} (h : j < 128) :
    (edgePool image)[j]? = some (if j < edgesHeld image then edgeRecord image j
      else { offset := 0, fine := 0, output := 0, level := false }) := by
  have ht : edgeTotal image = edgesHeld image := rfl
  unfold edgePool
  rw [ht]
  split
  · next hj => simp [List.getElem?_append_left, hj]
  · next hj =>
    rw [List.getElem?_append_right (by simpa using hj)]
    simp only [List.length_map, List.length_range, List.getElem?_replicate]
    rw [if_pos (by omega)]

theorem edgesOf_getElem? (pool : List Edge) (r : PatternRecord) (i : Nat) :
    (edgesOf pool r)[i]? = if i < r.count then pool[r.first + i]? else none := by
  unfold edgesOf
  split
  · next h => simp [h]
  · rw [List.getElem?_take]
    split
    · rw [List.getElem?_drop]
    · rfl

/-- The edges of a pattern that runs inside the loaded edges are loaded edges, in their order. -/
theorem edgesOf_edgePool {image : List MergedGranule} {r : PatternRecord} (h : r.count ≠ 0 → r.first + r.count ≤ edgesHeld image)
    {i : Nat} {e : Edge} :
    (edgesOf (edgePool image) r)[i]? = some e ↔
      i < r.count ∧ r.first + i < edgesHeld image ∧ e = edgeRecord image (r.first + i) := by
  have hmax : edgesHeld image ≤ 128 := Nat.min_le_left _ _
  rw [edgesOf_getElem?]
  by_cases hi : i < r.count
  · have hj : r.first + i < edgesHeld image := by have := h (by omega); omega
    rw [if_pos hi, edgePool_getElem? image (by omega), if_pos hj]
    simp [hi, hj, eq_comm]
  · simp [hi]

theorem edgesOrdered_iff (l : List Edge) : edgesOrdered l = true ↔ l.IsChain (fun a b => a.notAfter b = true) := by
  induction l with
  | nil => simp [edgesOrdered]
  | cons a l ih =>
    cases l with
    | nil => simp [edgesOrdered]
    | cons b l => rw [edgesOrdered, Bool.and_eq_true, ih, List.isChain_cons_cons]

theorem edgesOrdered_iff_getElem? (l : List Edge) :
    edgesOrdered l = true ↔ ∀ i a b, l[i]? = some a → l[i + 1]? = some b → a.notAfter b = true := by
  rw [edgesOrdered_iff, List.isChain_iff_getElem]
  constructor
  · intro h i a b ha hb
    obtain ⟨hlt, rfl⟩ := List.getElem?_eq_some_iff.mp ha
    obtain ⟨hlt', rfl⟩ := List.getElem?_eq_some_iff.mp hb
    exact h i hlt'
  · intro h i hi
    exact h i _ _ (List.getElem?_eq_getElem (Nat.lt_of_succ_lt hi)) (List.getElem?_eq_getElem hi)

theorem Edge.notAfter_iff (a b : Edge) :
    a.notAfter b = true ↔ a.offset < b.offset ∨ (a.offset = b.offset ∧ a.fine ≤ b.fine) := by
  simp [Edge.notAfter]

/-- Edges in order are in order pairwise: the order of time is transitive (R116). -/
theorem edgesOrdered_pairwise {l : List Edge} (h : edgesOrdered l = true) :
    l.Pairwise (fun a b => a.offset < b.offset ∨ (a.offset = b.offset ∧ a.fine ≤ b.fine)) := by
  have htrans : Trans (fun a b : Edge => a.notAfter b = true) (fun a b => a.notAfter b = true)
      (fun a b => a.notAfter b = true) := ⟨fun {a b c} hab hbc => by rw [Edge.notAfter_iff] at *; omega⟩
  exact (List.isChain_iff_pairwise.mp ((edgesOrdered_iff l).mp h)).imp fun h => (Edge.notAfter_iff _ _).mp h

theorem directoryInRange_iff (total : Nat) (r : PatternRecord) :
    directoryInRange total r = true ↔
      (r.span = 1 ∨ r.span = 2) ∧ r.count ≤ 32 ∧ (r.count ≠ 0 → r.first + r.count ≤ total) := by
  simp only [directoryInRange, Bool.and_eq_true, Bool.or_eq_true, decide_eq_true_eq, beq_iff_eq, and_assoc, ne_eq,
    or_iff_not_imp_left]

/-- The offset of edge `j`, 0 beyond the loaded edges (R143). -/
def loadedOffset (image : List MergedGranule) (j : Nat) : Nat := if j < edgesHeld image then (edgeRecord image j).offset else 0

/-- The fine delay of edge `j`, 0 beyond the loaded edges (R143). -/
def loadedFine (image : List MergedGranule) (j : Nat) : Nat := if j < edgesHeld image then (edgeRecord image j).fine else 0

/-- Test 3 of R143 for a pattern that runs inside the loaded edges. -/
theorem patternPlayable_iff {image : List MergedGranule} {r : PatternRecord} (slotLen : Nat)
    (h : r.count ≠ 0 → r.first + r.count ≤ edgesHeld image) :
    patternPlayable slotLen (edgePool image) r = true ↔
      (∀ j, r.first ≤ j → j < r.first + r.count → loadedOffset image j < r.span * slotLen) ∧
      (∀ j, r.first + 1 ≤ j → j < r.first + r.count →
        loadedOffset image (j - 1) < loadedOffset image j ∨
          (loadedOffset image (j - 1) = loadedOffset image j ∧ loadedFine image (j - 1) ≤ loadedFine image j)) := by
  have hin (j : Nat) (hj : r.first ≤ j) (hj' : j < r.first + r.count) : j < edgesHeld image := by
    have := h (by omega); omega
  have hedge (j : Nat) (hj : r.first ≤ j) (hj' : j < r.first + r.count) :
      (edgesOf (edgePool image) r)[j - r.first]? = some (edgeRecord image j) :=
    (edgesOf_edgePool h).mpr ⟨by omega, by have := hin j hj hj'; omega, by rw [Nat.add_sub_cancel' hj]⟩
  simp only [patternPlayable, Bool.and_eq_true, List.all_eq_true, decide_eq_true_eq, edgesOrdered_iff_getElem?]
  refine and_congr ⟨fun hall j hj hj' => ?_, fun hall e he => ?_⟩ ⟨fun hall j hj hj' => ?_, fun hall i a b ha hb => ?_⟩
  · rw [loadedOffset, if_pos (hin j hj hj')]
    exact hall _ (List.mem_of_getElem? (hedge j hj hj'))
  · obtain ⟨i, hi⟩ := List.getElem?_of_mem he
    obtain ⟨hlt, hE, rfl⟩ := (edgesOf_edgePool h).mp hi
    simpa [loadedOffset, hE] using hall (r.first + i) (by omega) (by omega)
  · have ha := hedge (j - 1) (by omega) (by omega)
    have hb := hedge j (by omega) hj'
    rw [show j - r.first = j - 1 - r.first + 1 by omega] at hb
    have := (Edge.notAfter_iff _ _).mp (hall _ _ _ ha hb)
    simpa only [loadedOffset, loadedFine, if_pos (hin j (by omega) hj'), if_pos (hin (j - 1) (by omega) (by omega))] using this
  · obtain ⟨hi, hE, rfl⟩ := (edgesOf_edgePool h).mp ha
    obtain ⟨hi', hE', rfl⟩ := (edgesOf_edgePool h).mp hb
    have := hall (r.first + (i + 1)) (by omega) (by omega)
    rw [show r.first + (i + 1) - 1 = r.first + i by omega] at this
    simpa only [Edge.notAfter_iff, loadedOffset, loadedFine, if_pos hE, if_pos hE'] using this

theorem imagePatterns_iff (image : List MergedGranule) : imagePatterns image ↔ patternsPass image = true := by
  have hstated : imagePatterns image ↔
      (∀ j, j < edgesHeld image → (edgeRecord image j).fine ≤ 9 ∧ numAt (patternSection image) (51 + 4 * j) ≤ 15) ∧
      (∀ k, k < 16 → directoryInRange (edgesHeld image) (patternRecord image k) = true) ∧
      (∀ k, k < 16 →
        (∀ j, (patternRecord image k).first ≤ j → j < (patternRecord image k).first + (patternRecord image k).count →
          loadedOffset image j < (patternRecord image k).span * wordAt (sharedSection image) 4) ∧
        (∀ j, (patternRecord image k).first + 1 ≤ j →
          j < (patternRecord image k).first + (patternRecord image k).count →
          loadedOffset image (j - 1) < loadedOffset image j ∨
            (loadedOffset image (j - 1) = loadedOffset image j ∧ loadedFine image (j - 1) ≤ loadedFine image j))) := by
    simp only [directoryInRange_iff]
    rfl
  have hpass : patternsPass image = true ↔
      (∀ j, j < edgesHeld image → (edgeRecord image j).fine ≤ 9 ∧ numAt (patternSection image) (51 + 4 * j) ≤ 15) ∧
      (∀ k, k < 16 → directoryInRange (edgesHeld image) (patternRecord image k) = true) ∧
      (∀ k, k < 16 →
        patternPlayable (wordAt (sharedSection image) 4) (edgePool image) (patternRecord image k) = true) := by
    simp only [patternsPass, edgesInRange, Bool.and_eq_true, List.all_eq_true, List.mem_range, decide_eq_true_eq, and_assoc]
    rfl
  rw [hstated, hpass]
  refine and_congr_right fun _ => and_congr_right fun hdir => forall_congr' fun k => imp_congr_right fun hk => ?_
  exact (patternPlayable_iff _ ((directoryInRange_iff _ _).mp (hdir k hk)).2.2).symm

/-! ### The outcome of CHECKING -/

/-- Which test of CHECKING fails first, if any (R141–R143). -/
theorem checkingFailure_cases (image : List MergedGranule) (sid : BitVec 4) :
    (¬ imageParams image → checkingFailure image sid = some .param) ∧
    (imageParams image → imageWindows image ≤ sid.toNat → checkingFailure image sid = some .stationRange) ∧
    (imageParams image → sid.toNat < imageWindows image → ¬ (∀ i, i < 4 → imageClass image i) →
      checkingFailure image sid = some .cls) ∧
    (imageParams image → sid.toNat < imageWindows image → (∀ i, i < 4 → imageClass image i) → ¬ imagePatterns image →
      checkingFailure image sid = some .pattern) ∧
    (imageAccepted image sid → checkingFailure image sid = none) := by
  have hp := imageParams_iff image
  have hq := imagePatterns_iff image
  have hc : (∀ i, i < 4 → imageClass image i) ↔ (List.range 4).any (classFails image) = false := by
    simp only [imageClass_iff, List.any_eq_false, List.mem_range, Bool.not_eq_true]
  have hparams (h : imageParams image) : ¬ (!paramsInRange image) = true := by simp [hp.mp h]
  have hsid (h : sid.toNat < imageWindows image) : ¬ numAt (sharedSection image) 0 ≤ sid.toNat := Nat.not_le.mpr h
  have hclass (h : ∀ i, i < 4 → imageClass image i) : ¬ (List.range 4).any (classFails image) = true := by rw [hc.mp h]; simp
  unfold checkingFailure
  refine ⟨fun h => ?_, fun h1 h2 => ?_, fun h1 h2 h3 => ?_, fun h1 h2 h3 h4 => ?_, fun ⟨h1, h2, h3, h4⟩ => ?_⟩
  · rw [if_pos (by simpa using mt hp.mpr h)]
  · rw [if_neg (hparams h1), if_pos (show numAt (sharedSection image) 0 ≤ sid.toNat from h2)]
  · rw [if_neg (hparams h1), if_neg (hsid h2), if_pos (by simpa using mt hc.mpr h3)]
  · rw [if_neg (hparams h1), if_neg (hsid h2), if_neg (hclass h3), if_pos (by simpa using mt hq.mpr h4)]
  · rw [if_neg (hparams h1), if_neg (hsid h2), if_neg (hclass h3), if_neg (by simp [hq.mp h4])]

theorem imageAccepted_of_checkingFailure {image : List MergedGranule} {sid : BitVec 4} (h : checkingFailure image sid = none) :
    imageAccepted image sid := by
  obtain ⟨hp, hw, hc, hq, -⟩ := checkingFailure_cases image sid
  by_contra hn
  by_cases h1 : imageParams image
  · by_cases h2 : sid.toNat < imageWindows image
    · by_cases h3 : ∀ i, i < 4 → imageClass image i
      · by_cases h4 : imagePatterns image
        · exact hn ⟨h1, h2, h3, h4⟩
        · rw [hq h1 h2 h3 h4] at h; cases h
      · rw [hc h1 h2 h3] at h; cases h
    · rw [hw h1 (Nat.not_lt.mp h2)] at h; cases h
  · rw [hp h1] at h; cases h

/-- The configuration of an accepted image, class by class. -/
theorem settingsOf_classOf (image : List MergedGranule) {i : Nat} (h : i < 4) :
    (settingsOf image).classOf i = classRecord image i := by
  simp [Settings.classOf, settingsOf, List.getD_eq_getElem?_getD, h]

theorem settingsOf_patternOf (image : List MergedGranule) {p : Nat} (h : p < 16) :
    (settingsOf image).patternOf p = patternRecord image p := by
  simp [Settings.patternOf, settingsOf, List.getD_eq_getElem?_getD, h]

theorem settingsOf_patternEdges (image : List MergedGranule) {p : Nat} (h : p < 16) :
    (settingsOf image).patternEdges p = edgesOf (edgePool image) (patternRecord image p) := by
  unfold Settings.patternEdges edgesOf
  rw [settingsOf_patternOf image h]
  rfl

/-- Every edge of the pool is in the ranges of R115. -/
theorem edgePool_inRange {image : List MergedGranule} (h : imagePatterns image) :
    ∀ e ∈ edgePool image, e.fine ≤ 9 ∧ e.output ≤ 7 := by
  obtain ⟨hedge, -⟩ := h
  intro e he
  rcases List.mem_append.mp he with he | he
  · obtain ⟨j, hj, rfl⟩ := List.mem_map.mp he
    obtain ⟨hf, ho⟩ := hedge j (List.mem_range.mp hj)
    have ho : numAt (patternSection image) (51 + 4 * j) ≤ 15 := ho
    exact ⟨hf, Nat.le_of_lt_succ (Nat.div_lt_of_lt_mul (by omega))⟩
  · obtain ⟨-, rfl⟩ := List.mem_replicate.mp he
    exact ⟨Nat.zero_le _, Nat.zero_le _⟩

theorem settingsOf_inRange {image : List MergedGranule} (hp : imageParams image) (hq : imagePatterns image) :
    (settingsOf image).inRange := by
  obtain ⟨h1, h2, h3, h4, h5, h6, h7, -, h8, h9, -⟩ := hp
  exact ⟨h1, h2, h3, h4, h5, h6, h7, h8, h9, by simp [settingsOf], by simp [settingsOf], edgePool_length image,
    edgePool_inRange hq⟩

/-- What an accepted class in use may claim (R99, R142). -/
theorem settingsOf_class_inRange {image : List MergedGranule} (h : ∀ i, i < 4 → imageClass image i) {i : Nat} (hi : i < 4)
    (hs : ((settingsOf image).classOf i).source ≠ .none) :
    ((settingsOf image).classOf i).pattern ≤ 15 ∧ ((settingsOf image).classOf i).priority ≤ 3 ∧
      1 ≤ ((settingsOf image).classOf i).limit ∧ ((settingsOf image).classOf i).limit ≤ 4 ∧
      1 ≤ ((settingsOf image).classOf i).maxAge ∧ ((settingsOf image).classOf i).maxAge ≤ 31 := by
  obtain ⟨hle, -, hr⟩ := h i hi
  rw [settingsOf_classOf image hi] at hs ⊢
  obtain ⟨hpat, hpri, hlim, hage⟩ := hr fun h0 => hs ((sourceOf_eq _).2.2.2 hle |>.mpr h0)
  exact ⟨hpat, hpri, hlim.1, hlim.2, hage.1, hage.2⟩

theorem settingsOf_triggered_inj {image : List MergedGranule} (h : ∀ i, i < 4 → imageClass image i) {i j : Nat} (hi : i < 4)
    (hj : j < 4) (ht : ((settingsOf image).classOf i).triggered = true)
    (he : ((settingsOf image).classOf i).source = ((settingsOf image).classOf j).source) : i = j := by
  rw [settingsOf_classOf image hi] at ht he
  rw [settingsOf_classOf image hj] at he
  obtain ⟨ha, hb, -⟩ := sourceOf_eq (sourceByte image i)
  have hbyte : (sourceByte image i).toNat = 1 ∨ (sourceByte image i).toNat = 2 := by
    simp only [ClassRecord.triggered, classRecord, Bool.or_eq_true, beq_iff_eq] at ht
    exact ht.imp ha.mp hb.mp
  have hsame : (sourceByte image j).toNat = (sourceByte image i).toNat := (sourceOf_inj hbyte).mp he.symm
  rcases Nat.lt_trichotomy i j with hlt | heq | hlt
  · exact absurd hsame.symm ((h j hj).2.1 (by rw [← hsame] at hbyte; exact hbyte) i hlt)
  · exact heq
  · exact absurd hsame ((h i hi).2.1 hbyte j hlt)

/-- Every pattern of an accepted image can be played (R116, R143). -/
theorem settingsOf_pattern_inRange {image : List MergedGranule} (h : patternsPass image = true) {p : Nat} (hp : p < 16) :
    (((settingsOf image).patternOf p).span = 1 ∨ ((settingsOf image).patternOf p).span = 2) ∧
      ((settingsOf image).patternOf p).count ≤ 32 ∧
      ((settingsOf image).patternEdges p).length = ((settingsOf image).patternOf p).count ∧
      (∀ e ∈ (settingsOf image).patternEdges p, e.offset < ((settingsOf image).patternOf p).span * (settingsOf image).slotLen) ∧
      ((settingsOf image).patternEdges p).Pairwise
        (fun a b => a.offset < b.offset ∨ (a.offset = b.offset ∧ a.fine ≤ b.fine)) := by
  simp only [patternsPass, Bool.and_eq_true, List.all_eq_true, List.mem_range] at h
  obtain ⟨⟨-, hdir⟩, hplay⟩ := h
  obtain ⟨hspan, hcount, hrun⟩ := (directoryInRange_iff _ _).mp (hdir p hp)
  have hpl := hplay p hp
  simp only [patternPlayable, Bool.and_eq_true, List.all_eq_true, decide_eq_true_eq] at hpl
  rw [settingsOf_patternOf image hp, settingsOf_patternEdges image hp]
  refine ⟨hspan, hcount, ?_, hpl.1, edgesOrdered_pairwise hpl.2⟩
  have hE : edgeTotal image ≤ 128 := Nat.min_le_left _ _
  unfold edgesOf
  split
  · simp_all
  · next h0 =>
    have := hrun h0
    rw [List.length_take, List.length_drop, edgePool_length]
    omega

/-! ### Load completion (R144, R145) -/

/-- Load completion with success in a LOADING station: what the blocks take from the image (R41, R144). -/
theorem State.completeLoad_of_loading {s : State} (h : s.station = .loading) (a b : Bool) :
    s.completeLoad a b = { s with
      cfg := some (settingsOf s.loader.granules)
      loader := { s.loader with state := .loaded, result := .success, reason := .none }
      timer := { s.timer with
        mode := .searching, value := 0, prescaler := 0, frame := 0, markLow := 0, silence := 0, emitted := 0, lapsed := [] }
      alloc := Allocator.cleared (settingsOf s.loader.granules)
      demand := { s.demand with trga := { high := a, run := 0 }, trgb := { high := b, run := 0 } }
      engine := PatternEngine.rest (settingsOf s.loader.granules) false
      membership := { s.membership.clearPeers with
        station := .listening, observation := .unaligned, listenRef := none, streak := 0, joiningSent := 0,
        joiningFrames := 0, leavePending := false } } := by
  unfold State.completeLoad
  extract_lets c
  unfold State.enterListening
  rw [State.exitMember_of_ne _ (by show s.station ≠ .member; rw [h]; decide)]

theorem State.loadSucceeds_iff (s : State) : s.loadSucceeds = true ↔
    s.loader.state = .checking ∧ s.loader.failing = none ∧ checkingFailure s.loader.granules s.sid = none := by
  simp only [State.loadSucceeds, State.loadFailure, Bool.and_eq_true, beq_iff_eq]
  refine and_congr_right fun hs => ?_
  cases hf : s.loader.failing <;> simp [hs]

theorem exec_loadCompletionSuccess_of_accepted {s : State} (hs : s.loader.state = .checking) (hf : s.loader.failing = none)
    (hi : imageAccepted s.loader.granules s.sid) (a b : Bool) :
    exec (.loadCompletionSuccess a b) s = .next (s.completeLoad a b) := by
  have h : s.loadSucceeds = true := s.loadSucceeds_iff.mpr ⟨hs, hf, (checkingFailure_cases _ _).2.2.2.2 hi⟩
  simp only [exec, execLoadCompletionSuccess, h, if_true]

theorem exec_loadCompletionFailure {s : State} {why : LoadReason} (h : s.loadFailure = some why) :
    exec .loadCompletionFailure s = .next (s.failLoad why) := by
  simp only [exec, execLoadCompletionFailure, h, State.failLoad]

theorem State.failLoad_frame (s : State) (why : LoadReason) : s.onlyChanges (s.failLoad why) [.loader, .membership] := by
  intro b hb; cases b <;> simp_all [Block.same, State.failLoad]

/-- The peers of a cleared table. -/
theorem peer_of_cleared {s : State} (h : s.membership.peers = List.replicate 16 PeerEntry.cleared) (k : Nat) :
    s.peer k = PeerEntry.cleared := by
  unfold State.peer
  rw [h, List.getD_eq_getElem?_getD, List.getElem?_replicate]
  split <;> rfl

/-- The pins of the drive outputs while the engine is not UNLOADED (R117, R118). -/
theorem State.drv_of_loaded {s : State} {c : Settings} (hc : s.cfg = some c) (hm : s.engine.mode ≠ .unloaded) (i : Nat) :
    s.drv i = if c.enableMask.getLsbD i then some (s.engine.levels.getLsbD i != c.invertMask.getLsbD i) else none := by
  unfold State.drv
  split
  · exact absurd ‹_› hm
  · simp_all
  · simp_all

end Sys2Proof.Machine

namespace Sys2Proof.Proofs

open Sys2Proof.Machine

/-- Settles O10: the tests of CHECKING, read on the configuration that is made of the same bytes. -/
theorem acceptedImageInRange : Obligations.AcceptedImageInRange := by
  unfold Obligations.AcceptedImageInRange
  intro image sid h c
  obtain ⟨hparams, hwindows, hclasses, hpatterns⟩ := imageAccepted_of_checkingFailure h
  exact ⟨settingsOf_inRange hparams hpatterns, hwindows, fun i hi hs => settingsOf_class_inRange hclasses hi hs,
    fun i j hi hj ht he => settingsOf_triggered_inj hclasses hi hj ht he,
    fun p hp => settingsOf_pattern_inRange ((imagePatterns_iff image).mp hpatterns) hp⟩

/-- Settles O6: the cases of the choice and of the tests of the chosen header; at the pins, bit `j` of byte `n` is bit 8n + j of
the transfer. -/
theorem headersAreReadAndChosen : Obligations.HeadersAreReadAndChosen := by
  unfold Obligations.HeadersAreReadAndChosen
  refine ⟨fun bytes i s hs hb => ?_, fun b0 b1 s h0 h1 hl0 hl1 e0 e1 hs hb hh hf => ?_,
    fun l copy i hb hc hi => ⟨fun hp => ?_, fun hp => ?_⟩, fun bytes hl => ?_⟩
  · refine .of_eq (exec_granuleRead_of_boot (by simp [hb]) bytes) ?_
    obtain ⟨hsel, hclk, hbdo, -⟩ := (s.loader.granule bytes).pause_pins (Config.bootPause s.draws)
    have hg : s.loader.granule bytes = { s.loader with header0 := some (headerOf bytes), boot := some (1, 0) } := by
      simp only [ImageLoader.granule, hs, hb]
    refine ⟨⟨4 * (2 + Config.bootPause s.draws), by omega, ?_⟩, hsel, hclk, hbdo, ?_, s.readGranule_frame bytes⟩
    · simp only [State.readGranule, hg]
      rfl
    · simp only [State.readGranule, hg]
      rfl
  · intro good format counts failed
    refine .of_eq (exec_granuleRead_of_boot (by simp [hb]) b1) ?_
    let n := Config.bootPause s.draws
    let l : ImageLoader := { s.loader with header1 := some h1 }
    have hd0 : h0.data.length = 15 := by subst e0; simp [hl0]
    have hd1 : h1.data.length = 15 := by subst e1; simp [hl1]
    have hread : headerOf b1 = h1 := by simp [headerOf, granulePasses, hl1, e1]
    have hloader : (s.readGranule b1).loader = (l.choose h0 h1).pause n := by
      show (s.loader.granule b1).pause _ = _
      rw [ImageLoader.granule_second hs hb hh b1, hread]
    have hg (h : HeaderRead) : good h ↔ h.good = true := h.good_iff.symm
    obtain ⟨hnone, hchoose⟩ := l.choose_cases h0 h1
    have hpins := (l.choose h0 h1).pause_pins n
    have htest (p : Nat) (h : HeaderRead) (hd : h.data.length = 15)
        (hp : (p = 0 ∧ h = h0 ∧ h0.good = true) ∨ (p = 1 ∧ h = h1 ∧ ¬ h0.good = true ∧ h1.good = true)) :
        (¬ format h → failed .badFormat (s.readGranule b1)) ∧
        (format h → ¬ counts h → failed .param (s.readGranule b1)) := by
      obtain ⟨fb, -, -, -, hfail⟩ := hchoose p h hp
      obtain ⟨-, hbad, hparam⟩ := headerFailure_cases hd
      refine ⟨fun hf => ?_, fun hf hc => ?_⟩
      · refine ⟨?_, ?_, ?_, ?_⟩ <;> rw [hloader, hfail _ (hbad hf)]
        exacts [rfl, rfl, rfl, hs]
      · refine ⟨?_, ?_, ?_, ?_⟩ <;> rw [hloader, hfail _ (hparam hf hc)]
        exacts [rfl, rfl, rfl, hs]
    refine ⟨s.readGranule_frame b1, by rw [hloader]; exact hpins.1, fun h hfmt hc => ?_, fun hn h hfmt hc => ?_, fun hn0 hn1 => ?_,
      fun h => (htest 0 h0 hd0 (.inl ⟨rfl, rfl, (hg _).mp h⟩)).1,
      fun h => (htest 0 h0 hd0 (.inl ⟨rfl, rfl, (hg _).mp h⟩)).2,
      fun hn h => (htest 1 h1 hd1 (.inr ⟨rfl, rfl, mt (hg _).mpr hn, (hg _).mp h⟩)).1,
      fun hn h => (htest 1 h1 hd1 (.inr ⟨rfl, rfl, mt (hg _).mpr hn, (hg _).mp h⟩)).2⟩
    · obtain ⟨fb, hfb, -, hok, -⟩ := hchoose 0 h0 (.inl ⟨rfl, rfl, (hg _).mp h⟩)
      rw [hloader, hok ((headerFailure_cases hd0).1 hfmt hc)]
      refine ⟨rfl, rfl, rfl, ?_, rfl, rfl, ?_, hf⟩
      · rw [hg, ← HeaderRead.serial_eq_iff]
        exact hfb rfl
      · show 8 ≤ 4 * (2 + n); omega
    · obtain ⟨fb, -, hfb, hok, -⟩ := hchoose 1 h1 (.inr ⟨rfl, rfl, mt (hg _).mpr hn, (hg _).mp h⟩)
      rw [hloader, hok ((headerFailure_cases hd1).1 hfmt hc)]
      refine ⟨rfl, rfl, rfl, hfb rfl, rfl, rfl, ?_, hf⟩
      show 8 ≤ 4 * (2 + n); omega
    · refine ⟨?_, ?_, ?_, ?_⟩ <;> rw [hloader, hnone (mt (hg _).mpr hn0) (mt (hg _).mpr hn1)]
      exacts [rfl, rfl, rfl, hs]
  · have hsel : l.bselAsserted = false := by simp [ImageLoader.bselAsserted, hp]
    exact ⟨hsel, by simp [ImageLoader.bclk, hsel], by simp [ImageLoader.bdo, hsel]⟩
  · have hsel : l.bselAsserted = true := by simp [ImageLoader.bselAsserted, hb, hp]
    have hbytes : l.bdoBytes = bootCommand (granuleAddress copy i) := by simp only [ImageLoader.bdoBytes, hb]
    refine ⟨hsel, by simp [ImageLoader.bclk, hsel], hbytes.trans (bootCommand_granuleAddress hi), fun n j b _ hj hn hclock => ?_⟩
    rw [ImageLoader.bdo, hsel, hclock, Bool.true_and]
    exact flatMap_bitsMsbFirst_getD hn hj
  · have h := bytesOfLevels_flatMap bytes
    rw [hl] at h
    exact congrArg Instr.granuleRead h

/-- Settles O7: the cases of the merge. -/
theorem mergeGranule : Obligations.MergeGranule := by
  unfold Obligations.MergeGranule
  intro bytes copy i primary s hs hb hch hf hgr passes total ended
  refine .of_eq (exec_granuleRead_of_boot (by simp [hb]) bytes) ?_
  let n := Config.bootPause s.draws
  have hloader : (s.readGranule bytes).loader = (s.loader.merge primary copy i bytes).pause n := by
    simp only [State.readGranule, ImageLoader.granule, hs, hb, hch, n]
  have hpass : passes ↔ granulePasses bytes = true := by simp [granulePasses, passes]
  obtain ⟨hsel, hclk, hbdo, hpause⟩ := (s.loader.merge primary copy i bytes).pause_pins n
  obtain ⟨g, gs, hcons⟩ := List.exists_cons_of_ne_nil hgr
  have htotal : s.loader.total = total := by
    simp [ImageLoader.total, numAt, granuleData, total, hcons]
  refine ⟨s.readGranule_frame bytes, by rw [hloader]; exact hsel, by rw [hloader]; exact hclk, by rw [hloader]; exact hbdo,
    by rw [hloader]; exact hpause, fun hp => ?_, fun hp hc f hfb => ?_, fun hp hc hfb => ?_, fun hp hc => ?_⟩
  · rw [hloader, ImageLoader.merge, if_pos (hpass.mp hp), ImageLoader.take, htotal]
    by_cases hi : i + 1 < total
    · rw [if_pos hi]
      exact ⟨rfl, rfl, hf, fun _ => ⟨hs, rfl⟩, fun h => absurd h (Nat.not_le.mpr hi)⟩
    · rw [if_neg hi]
      exact ⟨rfl, rfl, hf, fun h => absurd h hi, fun _ => ⟨rfl, rfl⟩⟩
  · rw [hloader, ImageLoader.merge, if_neg (mt hpass.mpr hp), if_pos hc]
    split
    case h_1 f' hf' => cases hfb.symm.trans hf'; rfl
    case h_2 hf' => cases hfb.symm.trans hf'
  · rw [hloader, ImageLoader.merge, if_neg (mt hpass.mpr hp), if_pos hc]
    split
    case h_1 f' hf' => cases hfb.symm.trans hf'
    case h_2 => rfl
  · rw [hloader, ImageLoader.merge, if_neg (mt hpass.mpr hp), if_neg hc]
    rfl

/-- Settles O8: the blocks read their parts from the bytes of the accepted image, and the engine rests on its idle mask. -/
theorem loadSucceeds : Obligations.LoadSucceeds := by
  unfold Obligations.LoadSucceeds
  intro a b s hst hs hf hi shared own patterns
  refine .of_eq (exec_loadCompletionSuccess_of_accepted hs hf hi a b) ?_
  rw [State.completeLoad_of_loading hst]
  refine ⟨⟨settingsOf s.loader.granules, rfl, rfl, rfl, rfl, rfl, rfl, rfl, rfl, rfl, rfl, rfl, rfl, rfl, rfl,
      by simp [settingsOf], by simp [settingsOf], edgePool_length _, fun i h => ?_, fun p hp => ?_, fun j hj => ?_, rfl, rfl⟩,
    rfl, rfl, rfl, rfl, fun k => peer_of_cleared rfl k, rfl, rfl, rfl, rfl, rfl, rfl, rfl, rfl, rfl, rfl, rfl,
    fun c hc i _ => ?_, rfl, fun b hb => by cases b <;> simp_all [Block.same]⟩
  · obtain ⟨hle, -⟩ := hi.2.2.1 i h
    obtain ⟨ha, hb, hp, hn⟩ := sourceOf_eq (sourceByte s.loader.granules i)
    have hbyte (m : Nat) (hm : m < 256) :
        (sourceByte s.loader.granules i).toNat = m ↔ sourceByte s.loader.granules i = BitVec.ofNat 8 m := by
      rw [BitVec.toNat_eq, BitVec.toNat_ofNat, Nat.mod_eq_of_lt hm]
    rw [settingsOf_classOf _ h]
    exact ⟨(hn hle).trans (hbyte 0 (by omega)), ha.trans (hbyte 1 (by omega)), hb.trans (hbyte 2 (by omega)),
      hp.trans (hbyte 3 (by omega)), rfl, rfl, rfl, rfl⟩
  · exact settingsOf_patternOf _ hp
  · exact edgePool_getElem? _ hj
  · cases hc
    exact State.drv_of_loaded rfl (by simp [PatternEngine.rest]) i

/-- Settles O9: the first test of CHECKING that fails, or the test that has failed before it. -/
theorem loadFails : Obligations.LoadFails := by
  unfold Obligations.LoadFails
  intro s failed image
  have hfail {why : LoadReason} (h : s.loadFailure = some why) : Completes .loadCompletionFailure s (failed why) :=
    .of_eq (exec_loadCompletionFailure h)
      ⟨rfl, rfl, rfl, rfl, rfl, rfl, rfl, rfl, rfl, rfl, rfl, s.failLoad_frame why⟩
  refine ⟨fun why h => hfail (by simp [State.loadFailure, h]), fun hf hs => ?_⟩
  have hcheck {why : LoadReason} (h : checkingFailure image s.sid = some why) : s.loadFailure = some why := by
    simp only [State.loadFailure, hf, hs, if_true]
    exact h
  obtain ⟨hparam, hrange, hcls, hpat, -⟩ := checkingFailure_cases image s.sid
  exact ⟨fun h => hfail (hcheck (hparam h)), fun h1 h2 => hfail (hcheck (hrange h1 h2)),
    fun h1 h2 h3 => hfail (hcheck (hcls h1 h2 h3)), fun h1 h2 h3 h4 => hfail (hcheck (hpat h1 h2 h3 h4))⟩

end Sys2Proof.Proofs
end

section
/-! Reset (O4, O5, O55) and the table of the phase events (O11). -/

namespace Sys2Proof.Machine

theorem getD_replicate_self {α : Type} (n k : Nat) (x : α) : (List.replicate n x).getD k x = x := by
  rw [List.getD_eq_getElem?_getD, List.getElem?_replicate]
  split <;> rfl

theorem State.beginLoad_frame (s : State) (straps : BitVec 4) : s.onlyChanges (s.beginLoad straps) [.straps, .loader] := by
  intro b hb; cases b <;> simp_all [Block.same, State.beginLoad]

theorem exec_rstAsserted_of_long {n : Nat} (h : 2 ≤ n) (s : State) : exec (.rstAsserted n) s = .next s.assertReset := if_pos h

theorem exec_rstAsserted_of_short {n : Nat} (h : n < 2) (s : State) : exec (.rstAsserted n) s = .next s :=
  if_neg (Nat.not_le.mpr h)

theorem exec_rstNegated_of_low {s : State} (h : s.rstLow = true) (straps : BitVec 4) :
    exec (.rstNegated straps) s = .next (s.beginLoad straps) := if_pos h

theorem exec_rstNegated_of_high {s : State} (h : s.rstLow = false) (straps : BitVec 4) :
    exec (.rstNegated straps) s = .next s := if_neg (by simp [h])

/-! ### The table of section 1.4 -/

/-- A list of pairs, one pair for each member: where the members of the pairs stand. -/
theorem getElem?_flatMap_pair {α β : Type} (f g : α → β) (l : List α) (k : Nat) :
    (l.flatMap fun x => [f x, g x])[2 * k]? = l[k]?.map f ∧ (l.flatMap fun x => [f x, g x])[2 * k + 1]? = l[k]?.map g := by
  induction l generalizing k with
  | nil => simp
  | cons x l ih =>
    cases k with
    | zero => simp
    | succ k => simpa [Nat.mul_succ] using ih k

/-- What stands in a part of a concatenation, counted from its beginning. -/
theorem getElem?_append_add {α : Type} {l l' : List α} {n : Nat} (h : l.length = n) (k : Nat) : (l ++ l')[n + k]? = l'[k]? := by
  rw [List.getElem?_append_right (by omega), ← h, Nat.add_sub_cancel_left]

/-- Values up to a bound, in order, before values from that bound on, in order. -/
theorem pairwise_append_of_bound {l l' : List Nat} (m : Nat) (h : l.Pairwise (· ≤ ·)) (h' : l'.Pairwise (· ≤ ·))
    (hl : ∀ x ∈ l, x ≤ m) (hl' : ∀ x ∈ l', m ≤ x) : (l ++ l').Pairwise (· ≤ ·) :=
  List.pairwise_append.mpr ⟨h, h', fun x hx y hy => Nat.le_trans (hl x hx) (hl' y hy)⟩

/-- The values of a monotone function over a range are in order. -/
theorem pairwise_map_range {f : Nat → Nat} (h : ∀ i j, i ≤ j → f i ≤ f j) (n : Nat) :
    ((List.range n).map f).Pairwise (· ≤ ·) :=
  List.pairwise_map.mpr (List.pairwise_lt_range.imp fun hij => h _ _ (Nat.le_of_lt hij))

/-- The slot starts and ends are in order, slot k end with slot k+1 start. -/
theorem pairwise_slots {f : Nat → Nat} (h : ∀ i j, i ≤ j → f i ≤ f j) (n : Nat) :
    ((List.range n).flatMap fun k => [f k, f (k + 1)]).Pairwise (· ≤ ·) := by
  refine List.pairwise_flatMap.mpr ⟨fun k _ => by simpa using h k (k + 1) (Nat.le_succ k), List.pairwise_lt_range.imp fun {i j} hij => ?_⟩
  have h1 := h i j (by omega)
  have h2 := h (i + 1) j (by omega)
  have h3 := h j (j + 1) (by omega)
  simp only [List.mem_cons, List.not_mem_nil, or_false, forall_eq_or_imp, forall_eq]
  omega

theorem Settings.claimStart_mono (c : Settings) (i j : Nat) (h : i ≤ j) : c.claimStart i ≤ c.claimStart j :=
  Nat.add_le_add_left (Nat.mul_le_mul_left _ h) _

theorem Settings.digestStart_mono (c : Settings) (i j : Nat) (h : i ≤ j) : c.digestStart i ≤ c.digestStart j :=
  Nat.add_le_add_left (Nat.mul_le_mul_left _ h) _

theorem Settings.slotStartAt_mono (c : Settings) (i j : Nat) (h : i ≤ j) : c.slotStartAt i ≤ c.slotStartAt j :=
  Nat.add_le_add_left (Nat.mul_le_mul_left _ h) _

theorem Settings.claimStart_windows (c : Settings) : c.claimStart c.windows = c.claimClose := by
  simp only [Settings.claimStart, Settings.claimClose]; ring

theorem Settings.digestStart_windows (c : Settings) : c.digestStart c.windows = c.digestClose := by
  simp only [Settings.digestStart, Settings.claimClose, Settings.digestClose]; ring

theorem Settings.claimClose_le_digestClose (c : Settings) : c.claimClose ≤ c.digestClose := by
  rw [← c.digestStart_windows]
  simp only [Settings.digestStart]
  omega

theorem Settings.slotStartAt_slots (c : Settings) : c.slotStartAt c.slots + c.tail = c.frameLength := by
  simp only [Settings.slotStartAt, Settings.frameLength]; ring

/-- The windows and closes of a frame, before its slots. -/
def Settings.phases (c : Settings) : List (Nat × Instr) :=
  ((List.range c.windows).map (fun k => (c.claimStart k, Instr.claimWindowStart k)) ++ [(c.claimClose, .claimPhaseClose)]) ++
    ((List.range c.windows).map (fun k => (c.digestStart k, Instr.digestWindowStart k)) ++
      [(c.digestClose, .digestPhaseClose)])

theorem Settings.schedule_eq (c : Settings) : c.schedule = c.phases ++
    ((List.range c.slots).flatMap
      (fun k => [(c.slotStartAt k, Instr.slotStart k), (c.slotEndAt k, Instr.slotEnd k)]) ++ [(c.frameLength, .expiry)]) := by
  simp only [Settings.schedule, Settings.phases, List.append_assoc]

theorem Settings.phases_length (c : Settings) : c.phases.length = 2 * c.windows + 2 := by
  simp [Settings.phases]; omega

theorem Settings.schedule_length (c : Settings) : c.schedule.length = c.placeExpiry + 1 := by
  rw [c.schedule_eq]
  simp [Settings.phases_length, Settings.placeExpiry]
  omega

/-- The claim windows and claim phase close stand first. -/
theorem Settings.schedule_claims (c : Settings) {k : Nat} (h : k < c.windows + 1) : c.schedule[k]? =
    ((List.range c.windows).map (fun k => (c.claimStart k, Instr.claimWindowStart k)) ++
      [(c.claimClose, .claimPhaseClose)])[k]? := by
  rw [c.schedule_eq, List.getElem?_append_left (by rw [c.phases_length]; omega), Settings.phases,
    List.getElem?_append_left (by simpa using h)]

/-- The digest windows and digest phase close stand next. -/
theorem Settings.schedule_digests (c : Settings) {k : Nat} (h : k < c.windows + 1) : c.schedule[c.windows + 1 + k]? =
    ((List.range c.windows).map (fun k => (c.digestStart k, Instr.digestWindowStart k)) ++
      [(c.digestClose, .digestPhaseClose)])[k]? := by
  rw [c.schedule_eq, List.getElem?_append_left (by rw [c.phases_length]; omega), Settings.phases,
    getElem?_append_add (by simp)]

/-- The slots stand after them. -/
theorem Settings.schedule_slots (c : Settings) {k : Nat} (h : k < 2 * c.slots) : c.schedule[2 * c.windows + 2 + k]? =
    ((List.range c.slots).flatMap
      (fun k => [(c.slotStartAt k, Instr.slotStart k), (c.slotEndAt k, Instr.slotEnd k)]))[k]? := by
  rw [c.schedule_eq, getElem?_append_add c.phases_length, List.getElem?_append_left (by simpa [Nat.mul_comm] using h)]

theorem Settings.schedule_placeClaim (c : Settings) {k : Nat} (h : k < c.windows) :
    c.schedule[c.placeClaim k]? = some (c.claimStart k, .claimWindowStart k) := by
  rw [Settings.placeClaim, c.schedule_claims (by omega), List.getElem?_append_left (by simpa using h)]
  simp [h]

theorem Settings.schedule_placeClaimClose (c : Settings) :
    c.schedule[c.placeClaimClose]? = some (c.claimClose, .claimPhaseClose) := by
  rw [Settings.placeClaimClose, c.schedule_claims (by omega)]
  exact getElem?_append_add (by simp) 0

theorem Settings.schedule_placeDigest (c : Settings) {k : Nat} (h : k < c.windows) :
    c.schedule[c.placeDigest k]? = some (c.digestStart k, .digestWindowStart k) := by
  rw [Settings.placeDigest, c.schedule_digests (by omega), List.getElem?_append_left (by simpa using h)]
  simp [h]

theorem Settings.schedule_placeDigestClose (c : Settings) :
    c.schedule[c.placeDigestClose]? = some (c.digestClose, .digestPhaseClose) := by
  rw [show c.placeDigestClose = c.windows + 1 + c.windows by simp only [Settings.placeDigestClose]; omega,
    c.schedule_digests (by omega)]
  exact getElem?_append_add (by simp) 0

theorem Settings.schedule_placeSlotStart (c : Settings) {k : Nat} (h : k < c.slots) :
    c.schedule[c.placeSlotStart k]? = some (c.slotStartAt k, .slotStart k) := by
  rw [Settings.placeSlotStart, c.schedule_slots (by omega), (getElem?_flatMap_pair _ _ _ k).1]
  simp [h]

theorem Settings.schedule_placeSlotEnd (c : Settings) {k : Nat} (h : k < c.slots) :
    c.schedule[c.placeSlotEnd k]? = some (c.slotEndAt k, .slotEnd k) := by
  rw [show c.placeSlotEnd k = 2 * c.windows + 2 + (2 * k + 1) by simp only [Settings.placeSlotEnd]; omega,
    c.schedule_slots (by omega), (getElem?_flatMap_pair _ _ _ k).2]
  simp [h]

theorem Settings.schedule_placeExpiry (c : Settings) : c.schedule[c.placeExpiry]? = some (c.frameLength, .expiry) := by
  rw [Settings.placeExpiry, c.schedule_eq, getElem?_append_add c.phases_length]
  exact getElem?_append_add (by simp [Nat.mul_comm]) 0

/-- The phase events are in the order of their values (R5). -/
theorem Settings.schedule_pairwise (c : Settings) : (c.schedule.map Prod.fst).Pairwise (fun x y => x ≤ y) := by
  have hclaims : ((List.range c.windows).map c.claimStart ++ [c.claimClose]).Pairwise (· ≤ ·) ∧
      ∀ x ∈ (List.range c.windows).map c.claimStart ++ [c.claimClose], x ≤ c.claimClose := by
    have hle : ∀ x ∈ (List.range c.windows).map c.claimStart, x ≤ c.claimClose := by
      simp only [List.mem_map, List.mem_range, forall_exists_index, and_imp]
      rintro x k hk rfl
      exact c.claimStart_windows ▸ c.claimStart_mono k _ (Nat.le_of_lt hk)
    exact ⟨pairwise_append_of_bound c.claimClose (pairwise_map_range c.claimStart_mono _) (by simp) hle (by simp),
      by simpa [or_imp, forall_and] using hle⟩
  have hdigests : ((List.range c.windows).map c.digestStart ++ [c.digestClose]).Pairwise (· ≤ ·) ∧
      ∀ x ∈ (List.range c.windows).map c.digestStart ++ [c.digestClose], c.claimClose ≤ x ∧ x ≤ c.digestClose := by
    have hle : ∀ x ∈ (List.range c.windows).map c.digestStart, x ≤ c.digestClose := by
      simp only [List.mem_map, List.mem_range, forall_exists_index, and_imp]
      rintro x k hk rfl
      exact c.digestStart_le hk
    have hge (k : Nat) : c.claimClose ≤ c.digestStart k := by simp only [Settings.digestStart]; omega
    refine ⟨pairwise_append_of_bound c.digestClose (pairwise_map_range c.digestStart_mono _) (by simp) hle (by simp),
      fun x hx => ?_⟩
    rcases List.mem_append.mp hx with hx | hx
    · obtain ⟨k, -, rfl⟩ := List.mem_map.mp hx
      exact ⟨hge k, hle _ hx⟩
    · obtain rfl := List.mem_singleton.mp hx
      exact ⟨c.claimClose_le_digestClose, Nat.le_refl _⟩
  have hslots : ∀ x ∈ (List.range c.slots).flatMap (fun k => [c.slotStartAt k, c.slotStartAt (k + 1)]),
      c.digestClose ≤ x ∧ x ≤ c.frameLength := by
    intro x hx
    simp only [List.mem_flatMap, List.mem_range, List.mem_cons, List.not_mem_nil, or_false] at hx
    obtain ⟨k, hk, hx⟩ := hx
    have h0 := c.slotStartAt_mono 0 k (Nat.zero_le k)
    have h1 := c.slotStartAt_mono k (k + 1) (Nat.le_succ k)
    have h2 := c.slotStartAt_mono (k + 1) c.slots hk
    have h3 := c.slotStartAt_slots
    have h4 : c.digestClose ≤ c.slotStartAt 0 := by simp only [Settings.digestClose, Settings.slotStartAt]; omega
    omega
  rw [c.schedule_eq, List.map_append, Settings.phases]
  simp only [List.map_append, List.map_map, List.map_flatMap, List.map_cons, List.map_nil]
  refine pairwise_append_of_bound c.digestClose
    (pairwise_append_of_bound c.claimClose hclaims.1 hdigests.1 hclaims.2 fun x hx => (hdigests.2 x hx).1)
    (pairwise_append_of_bound c.frameLength (pairwise_slots c.slotStartAt_mono _) (by simp)
      (fun x hx => (hslots x hx).2) (by simp)) (fun x hx => ?_) fun x hx => ?_
  · rcases List.mem_append.mp hx with hx | hx
    · exact Nat.le_trans (hclaims.2 x hx) c.claimClose_le_digestClose
    · exact (hdigests.2 x hx).2
  · rcases List.mem_append.mp hx with hx | hx
    · exact (hslots x hx).1
    · obtain rfl := List.mem_singleton.mp hx
      exact c.digestClose_le

end Sys2Proof.Machine

namespace Sys2Proof.Proofs

open Sys2Proof.Machine

/-- Settles O4: by the definition of the reset state. -/
theorem resetState : Obligations.ResetState := by
  unfold Obligations.ResetState
  have hpeers (k : Nat) : State.reset.peer k = PeerEntry.cleared := getD_replicate_self 16 k _
  refine ⟨rfl, rfl, rfl, rfl, rfl, rfl, rfl, rfl, rfl, fun k => ⟨getD_replicate_self 16 k _, getD_replicate_self 16 k _⟩,
    hpeers, rfl, rfl, rfl, rfl, rfl, rfl, rfl, rfl, rfl, rfl, rfl, rfl, rfl, rfl, fun k => getD_replicate_self 16 k _, rfl, rfl,
    rfl, rfl, rfl, rfl, fun i => rfl, rfl, rfl, rfl, rfl, rfl, rfl, rfl, rfl, rfl, rfl, rfl, rfl, fun n => ?_, rfl, rfl, rfl, rfl,
    rfl⟩
  cases n <;> rfl

/-- Settles O5: the four cases of the pin. -/
theorem resetPin : Obligations.ResetPin := by
  unfold Obligations.ResetPin
  refine ⟨fun n s => ⟨fun h => .of_eq (exec_rstAsserted_of_long h s) ?_, fun h => .of_eq (exec_rstAsserted_of_short h s) rfl⟩,
    fun straps s => ⟨fun h => .of_eq (exec_rstNegated_of_low h straps) ?_, fun h => .of_eq (exec_rstNegated_of_high h straps) rfl⟩⟩
  · exact ⟨rfl, rfl, rfl, rfl, rfl, rfl, rfl, rfl, rfl, rfl, rfl, rfl, by simp [State.assertReset], rfl, rfl, rfl,
      s.assertReset_frame⟩
  · exact ⟨rfl, rfl, rfl, rfl, rfl, rfl, rfl, rfl, rfl, rfl, rfl, rfl, rfl, s.beginLoad_frame straps⟩

/-- Settles O55: each law on the values of the reset state. -/
theorem resetIsCoherent : Obligations.ResetIsCoherent := by
  have hl : State.reset.Loaded := by unfold State.Loaded; decide
  have ht : State.reset.Timed := ⟨rfl, rfl, rfl, rfl, rfl, rfl⟩
  have hm : State.reset.Membered := by unfold State.Membered; decide
  have hs : State.reset.Scheduled := ⟨rfl, rfl, rfl, rfl, rfl, rfl, rfl, rfl, rfl⟩
  refine ⟨⟨State.Sized.reset, hl, ht, hm, hs⟩, ⟨fun e he => absurd he List.not_mem_nil, .nil⟩, fun r hr step a e => ?_,
    fun x hx => absurd hx List.not_mem_nil, fun c hc => absurd hc nofun, nofun⟩
  rw [List.eq_of_mem_replicate hr] at e
  cases e

/-- Settles O11: what stands at each place of the table, and that it is in order. -/
theorem phaseEventTable : Obligations.PhaseEventTable := fun c _ =>
  ⟨fun _ hk => c.schedule_placeClaim hk, c.schedule_placeClaimClose, fun _ hk => c.schedule_placeDigest hk,
    c.schedule_placeDigestClose, fun _ hk => c.schedule_placeSlotStart hk, fun _ hk => c.schedule_placeSlotEnd hk,
    c.schedule_placeExpiry, c.schedule_length, c.schedule_pairwise⟩

end Sys2Proof.Proofs
end

section
/-! The local port (O49, O50, O52, O53, O54). -/

namespace Sys2Proof.Machine

/-! ### Transactions begin, and their codes -/

theorem exec_transactionStart_of_high {s : State} (h : s.port.lselLow = false) :
    exec .transactionStart s = .next { s with port := { s.port with
      lselLow := true
      state := if s.rstLow then .abandoned else if s.port.state = .idle then .code else s.port.state } } :=
  if_neg (by simp [h])

theorem exec_transactionStart_of_low {s : State} (h : s.port.lselLow = true) : exec .transactionStart s = .next s := if_pos h

theorem LocalPort.leading_eq (p : LocalPort) : p.leading = BitVec.ofNat 8 (p.commandCount.toNat * 16 +
    (match p.commandResult with
      | .none => 0
      | .accepted => 1
      | .refused => 2)) := by
  cases h : p.commandResult <;> simp only [LocalPort.leading, h] <;> rfl

theorem exec_readStatus_of_code {s : State} (h : s.port.state = .code) : exec .readStatus s =
    .next (({ s with events := { s.events with discarded := false } } : State).respond .status s.statusBytes) :=
  congrArg Host.Outcome.next (State.completeCode_of_code h 0x01)

theorem exec_readEvent_of_code {s : State} (h : s.port.state = .code) :
    exec .readEvent s = .next (s.respond (.event (!s.events.records.isEmpty)) s.events.eventBytes) :=
  congrArg Host.Outcome.next (State.completeCode_of_code h 0x02)

theorem exec_readPeers_of_code {s : State} (h : s.port.state = .code) :
    exec .readPeers s = .next (s.respond .peers s.peersBytes) :=
  congrArg Host.Outcome.next (State.completeCode_of_code h 0x03)

theorem exec_readTable_of_code {s : State} (h : s.port.state = .code) :
    exec .readTable s = .next (s.respond .table s.tableResponse) :=
  congrArg Host.Outcome.next (State.completeCode_of_code h 0x04)

theorem portCodeOf_portCommandCode (c : PortCommand) : portCodeOf (portCommandCode c) = .command c := by cases c <;> decide

theorem exec_commandCodeComplete_of_code {s : State} (h : s.port.state = .code) (c : PortCommand) :
    exec (.commandCodeComplete c) s = .next (s.respond (.command c) [0xC3]) := by
  refine congrArg Host.Outcome.next ((State.completeCode_of_code h _).trans ?_)
  rw [State.classifyCode, portCodeOf_portCommandCode]
  rfl

theorem portCodeOf_of_not_mem {code : Byte} (h : code ∉ portCodes) : portCodeOf code = .other := by
  simp only [portCodes, List.mem_cons, List.not_mem_nil, or_false, not_or] at h
  obtain ⟨h1, h2, h3, h4, h5, h6, h10, h20, h21⟩ := h
  rw [portCodeOf, if_neg h1, if_neg h2, if_neg h3, if_neg h4, if_neg h5, if_neg h6, if_neg h10, if_neg h20, if_neg h21]

theorem exec_rejectedCode_of_code {s : State} (h : s.port.state = .code) {code : Byte} (hc : code ∉ portCodes) :
    exec (.rejectedCode code) s = .next (s.respond .rejected [0xEE]) := by
  refine (if_neg (by simpa using hc)).trans (congrArg Host.Outcome.next ((State.completeCode_of_code h _).trans ?_))
  rw [State.classifyCode, portCodeOf_of_not_mem hc]
  rfl

theorem exec_responseByteShiftedOut_of_responding {s : State} {r : Response} (h : s.port.state = .responding r) :
    exec .responseByteShiftedOut s =
      .next { s with port := { s.port with state := .responding { r with shifted := r.shifted + 1 } } } := by
  simp only [exec, execResponseByteShiftedOut, h]

/-- The eight levels of LDI are the bits of the code byte, the most significant first (R148). -/
theorem byteOfLevels_eight (b7 b6 b5 b4 b3 b2 b1 b0 : Bool) : byteOfLevels [b7, b6, b5, b4, b3, b2, b1, b0] =
    BitVec.ofNat 8 (128 * b7.toNat + 64 * b6.toNat + 32 * b5.toNat + 16 * b4.toNat + 8 * b3.toNat + 4 * b2.toNat +
      2 * b1.toNat + b0.toNat) := by
  refine congrArg (BitVec.ofNat 8) ?_
  simp only [List.take, List.reverse_cons, List.reverse_nil, List.nil_append, List.cons_append, natOfBitsLsbFirst]
  omega

/-! ### The bytes of the reads (section 9.2) -/

theorem State.statusBytes_eq (s : State) : s.statusBytes = [byteOf s.station.code, byteOf s.agree.verdict.code, s.timer.frame,
    byteOf s.me, byteOf s.memberView.length, byteOf s.loader.result.code] ++
    [byteOf s.loader.reason.code, optByte s.loader.reason.index] ++ [byteOf s.loader.repaired,
    optByte (if s.station = .isolated then s.membership.isolation.map IsolationReason.code else none),
    byteOf s.events.records.length, flagByte s.events.overflow] := rfl

theorem EventQueue.eventBytes_of_cons {q : EventQueue} {r : EventRecord} {rest : List EventRecord} (h : q.records = r :: rest) :
    q.eventBytes = r.bytes := by
  rw [EventQueue.eventBytes, h]

theorem EventQueue.eventBytes_of_nil {q : EventQueue} (h : q.records = []) : q.eventBytes = List.replicate 8 0xFF := by
  rw [EventQueue.eventBytes, h]

theorem State.publishedCells_of_none {s : State} {c : Settings} (h : s.agree.published.cells = none) (hc : s.cfg = some c) :
    s.publishedCells = List.replicate (c.slots * c.channels) 0xFF := by
  rw [State.publishedCells, h, hc]

theorem State.publishedCells_of_unloaded {s : State} (h : s.agree.published.cells = none) (hc : s.cfg = none) :
    s.publishedCells = [] := by
  rw [State.publishedCells, h, hc]

theorem State.publishedCells_of_some {s : State} {t : Table} (h : s.agree.published.cells = some t) :
    s.publishedCells = tableBytes t := by
  rw [State.publishedCells, h]

theorem State.respond_port_frame (s : State) (kind : ResponseKind) (bytes : List Byte) :
    s.onlyChanges (s.respond kind bytes) [.port] := s.setPort_frame _

/-! ### The end of a transaction (R147) -/

theorem exec_transactionEnd_of_low {s : State} (h : s.port.lselLow = true) :
    exec .transactionEnd s = .next s.endTransaction := if_pos h

/-- The port after a transaction in which it itself does not change. -/
theorem State.endTransaction_of_endAction {s u : State} (h : s.endAction = u) : s.endTransaction =
    { u with port := { u.port with state := .idle, lselLow := false } } := by rw [State.endTransaction, h]

theorem State.endAction_of_not_responding {s : State} (h : ∀ r, s.port.state ≠ .responding r) : s.endAction = s := by
  unfold State.endAction
  split
  · next r hr => exact absurd hr (h r)
  · rfl

theorem State.endAction_of_status {s : State} {r : Response} (h : s.port.state = .responding r) (hk : r.kind = .status)
    (hn : 12 ≤ r.shifted) : s.endAction = { s with events := { s.events with overflow := s.events.discarded } } := by
  simp only [State.endAction, h, hk, hn, if_true]

theorem State.endAction_of_event {s : State} {r : Response} (h : s.port.state = .responding r) (hk : r.kind = .event true)
    (hn : 8 ≤ r.shifted) : s.endAction = { s with events := { s.events with records := s.events.records.tail } } := by
  simp only [State.endAction, h, hk, hn, if_true]

theorem State.endAction_of_command {s : State} {r : Response} {c : PortCommand} (h : s.port.state = .responding r)
    (hk : r.kind = .command c) : s.endAction = s.performCommand c := by
  simp only [State.endAction, h, hk]

/-- A response that is not the delivery of anything has no effect at the end of its transaction. -/
theorem State.endAction_of_no_effect {s : State} {r : Response} (h : s.port.state = .responding r)
    (hk : (r.kind = .status ∧ r.shifted < 12) ∨ (r.kind = .event true ∧ r.shifted < 8) ∨ r.kind = .event false ∨
      r.kind = .peers ∨ r.kind = .table ∨ r.kind = .queue ∨ r.kind = .counters ∨ r.kind = .rejected) : s.endAction = s := by
  rcases hk with ⟨hk, hn⟩ | ⟨hk, hn⟩ | hk | hk | hk | hk | hk | hk
  · simp only [State.endAction, h, hk, Nat.not_le.mpr hn, if_false]
  · simp only [State.endAction, h, hk, Nat.not_le.mpr hn, if_false]
  all_goals simp only [State.endAction, h, hk]

/-! ### The commands (R154) -/

theorem LocalPort.recorded_of_command {p : LocalPort} {r : Response} {c : PortCommand} (h : p.state = .responding r)
    (hk : r.kind = .command c) : p.recorded = some c := by
  simp only [LocalPort.recorded, h, hk]

theorem exec_clearCounters_of_recorded {s : State} (h : s.port.lselLow = true) (hr : s.port.recorded = some .clearCounters) :
    exec .clearCounters s = .next s.endTransaction := if_pos ⟨h, hr⟩

theorem exec_leave_of_recorded {s : State} (h : s.port.lselLow = true) (hr : s.port.recorded = some .leave) :
    exec .leave s = .next s.endTransaction := if_pos ⟨h, hr⟩

theorem exec_rejoin_of_recorded {s : State} (h : s.port.lselLow = true) (hr : s.port.recorded = some .rejoin) :
    exec .rejoin s = .next s.endTransaction := if_pos ⟨h, hr⟩

/-- The state after a transaction whose command gave `u` with a result, where the command does not touch the port. -/
def State.afterCommand (s u : State) (result : CommandResult) : State :=
  { u with port := { s.port with
    state := .idle, lselLow := false, commandCount := s.port.commandCount + 1, commandResult := result } }

theorem State.endTransaction_of_command {s u : State} {r : Response} {c : PortCommand} {result : CommandResult}
    (h : s.port.state = .responding r) (hk : r.kind = .command c) (ht : s.takeCommand c = (u, result))
    (hp : u.port = s.port) : s.endTransaction = s.afterCommand u result := by
  rw [State.endTransaction_of_endAction ((State.endAction_of_command h hk).trans rfl), State.performCommand, ht]
  simp only [LocalPort.note, State.afterCommand, hp]

theorem State.afterCommand_frame {s u : State} {result : CommandResult} {l : List Block} (h : s.onlyChanges u l) :
    s.onlyChanges (s.afterCommand u result) (.port :: l) :=
  State.onlyChanges_trans (State.onlyChanges_mono h fun _ hb => List.mem_cons_of_mem _ hb)
    (State.onlyChanges_mono (State.setPort_frame u _) (by simp))

theorem State.takeLeave_of_member {s : State} (h : s.station = .member) :
    s.takeLeave = ({ s with membership := { s.membership with leavePending := true } }, .accepted) := by
  simp only [State.takeLeave, h]

theorem State.takeLeave_of_outside {s : State} (h : s.station = .listening ∨ s.station = .joining) :
    s.takeLeave = (s.enterOffline, .accepted) := by
  rcases h with h | h <;> simp only [State.takeLeave, h]

theorem State.takeLeave_of_refused {s : State} (h : s.station = .leaving ∨ s.station = .offline ∨ s.station = .isolated ∨
    s.station = .loading ∨ s.station = .loadFailed) : s.takeLeave = (s, .refused) := by
  rcases h with h | h | h | h | h <;> simp only [State.takeLeave, h]

theorem State.takeRejoin_of_offline {s : State} (h : s.station = .offline) : s.takeRejoin = (s.enterListening, .accepted) := by
  simp only [State.takeRejoin, h]

theorem State.takeRejoin_of_pending {s : State} (h : s.station = .member) (hp : s.membership.leavePending = true) :
    s.takeRejoin = ({ s with membership := { s.membership with leavePending := false } }, .accepted) := by
  simp only [State.takeRejoin, h, hp, if_true]

theorem State.takeRejoin_of_refused {s : State} (h : s.station ≠ .offline)
    (hp : s.station = .member → s.membership.leavePending = false) : s.takeRejoin = (s, .refused) := by
  unfold State.takeRejoin
  split
  · next hs => exact absurd hs h
  · next hs => rw [if_neg (by simp [hp hs])]
  · rfl

theorem State.enterListening_of_ne {s : State} (h : s.station ≠ .member) : s.enterListening = { s with
    membership := { s.membership.clearPeers with
      station := .listening, observation := .unaligned, listenRef := none, streak := 0, joiningSent := 0,
      joiningFrames := 0, leavePending := false }
    timer := { s.timer with frame := 0, silence := 0 } } := by
  rw [State.enterListening, s.exitMember_of_ne h]

end Sys2Proof.Machine

namespace Sys2Proof.Proofs

open Sys2Proof.Machine

/-- Settles O49: the three cases of the falling edge. -/
theorem transactionStarts : Obligations.TransactionStarts := by
  unfold Obligations.TransactionStarts
  refine fun s => ⟨fun hl hr hs => .of_eq (exec_transactionStart_of_high hl) ⟨?_, ?_, s.setPort_frame _⟩,
    fun hl hr => .of_eq (exec_transactionStart_of_high hl) ⟨?_, ?_, s.setPort_frame _⟩,
    fun hl => .of_eq (exec_transactionStart_of_low hl) rfl⟩
  · simp [hr, hs]
  · simp only [hr, hs, LocalPort.ldo, Bool.false_eq_true, if_false, if_true]
    exact congrArg some (LocalPort.leading_eq _)
  · simp [hr]
  · simp [hr, LocalPort.ldo]

/-- Settles O50: the bytes of each read, field by field. -/
theorem readsTakeSnapshots : Obligations.ReadsTakeSnapshots := by
  unfold Obligations.ReadsTakeSnapshots
  intro s hs answers num opt half station verdict result reason isolation kind peer
  have hanswers (k : ResponseKind) (bytes : List Byte) : answers k bytes (s.respond k bytes) :=
    ⟨rfl, s.respond_port_frame k bytes⟩
  have hverdict (v : Verdict) : byteOf v.code = verdict v := by cases v <;> rfl
  have hopt (o : Option Nat) : optByte o = opt o := by cases o <;> rfl
  have hhalf (o : Option Half) : optHalf o = half o := by cases o <;> rfl
  refine ⟨⟨s.memberView, s.memberView_pairwise, s.mem_memberView, .of_eq (exec_readStatus_of_code hs) ⟨?_, rfl, ?_⟩⟩,
    fun r rest hr => ?_, fun hr => ?_, .of_eq (exec_readPeers_of_code hs) ?_,
    s.publishedCells, .of_eq (exec_readTable_of_code hs) ?_, fun h c hc => State.publishedCells_of_none h hc,
    fun h hc => State.publishedCells_of_unloaded h hc, fun t h => (State.publishedCells_of_some h).trans ?_⟩
  · have hstation : byteOf s.station.code = station := by unfold station; cases s.station <;> rfl
    have hresult : byteOf s.loader.result.code = result := by unfold result; cases s.loader.result <;> rfl
    have hreason : [byteOf s.loader.reason.code, optByte s.loader.reason.index] = reason := by
      unfold reason; cases s.loader.reason <;> rfl
    have hisolation : optByte (if s.station = .isolated then s.membership.isolation.map IsolationReason.code else none) =
        isolation := by
      unfold isolation
      by_cases hi : s.station = .isolated
      · rw [if_pos hi, hi]
        cases s.membership.isolation with
        | none => rfl
        | some why => cases why <;> rfl
      · rw [if_neg hi]
        split
        · next h _ => exact absurd h hi
        · next h _ => exact absurd h hi
        · rfl
    rw [State.statusBytes_eq, hstation, hresult, hreason, hisolation, hverdict]
    rfl
  · exact State.onlyChanges_comp (s.setEvents_frame _) (State.respond_port_frame _ _ _) (by decide)
  · refine .of_eq (exec_readEvent_of_code hs) ?_
    have hbytes : s.events.eventBytes = [num (kind r.kind + (if r.request = none then 128 else 0)), r.frame, opt r.peer,
        opt r.cls] ++ half r.request ++ [opt r.slot, opt r.channel] := by
      have hkind : r.kind.code = kind r.kind := by cases r.kind <;> rfl
      rw [EventQueue.eventBytes_of_cons hr, EventRecord.bytes, hopt, hopt, hopt, hopt, hhalf, hkind]
      cases r.request <;> rfl
    rw [hr, hbytes]
    exact hanswers _ _
  · refine .of_eq (exec_readEvent_of_code hs) ?_
    rw [EventQueue.eventBytes_of_nil hr, hr]
    exact hanswers _ _
  · have hpeer (p : PeerEntry) : p.bytes = [peer p.state, num ((if p.heard then 128 else 0) + p.group)] := by
      obtain ⟨st, group, heard⟩ := p
      cases st <;> cases heard <;> simp [PeerEntry.bytes, PeerState.code, PeerState.count, peer, num, byteOf]
    have hbytes : s.peersBytes = (List.range 16).flatMap (fun k => if k = s.me then [0x40, 0x00]
        else [peer (s.peer k).state, num ((if (s.peer k).heard then 128 else 0) + (s.peer k).group)]) := by
      simp only [State.peersBytes, hpeer]
    rw [hbytes]
    exact hanswers _ _
  · rw [State.tableResponse, hverdict, hhalf, hhalf]
    exact hanswers _ _
  · rfl

/-- Settles O52: the byte of the eight levels, and the transfers of a response. -/
theorem codesAndTransfers : Obligations.CodesAndTransfers := by
  unfold Obligations.CodesAndTransfers
  refine ⟨fun b7 b6 b5 b4 b3 b2 b1 b0 => ?_, fun s => ⟨fun hs j _ => ?_, fun command hs => ?_, fun code hs hcode => ?_,
    fun r hs => ?_⟩⟩
  · intro code
    have hcode : byteOfLevels [b7, b6, b5, b4, b3, b2, b1, b0] = code := byteOfLevels_eight ..
    rw [codeEvent, hcode, portCodeOf]
    split_ifs <;> rfl
  · rw [LocalPort.ldoLevel, hs]
  · exact .of_eq (exec_commandCodeComplete_of_code hs command) ⟨rfl, rfl, rfl, s.respond_port_frame _ _⟩
  · exact .of_eq (exec_rejectedCode_of_code hs hcode) ⟨rfl, rfl, s.respond_port_frame _ _⟩
  · have hlast : s.port.ldoLevel 8 = some ((r.byte r.shifted).getLsbD 0) := by rw [LocalPort.ldoLevel, hs]; rfl
    refine .of_eq (exec_responseByteShiftedOut_of_responding hs) ⟨rfl, fun b hb => ?_, fun hn => ?_, hlast ▸ rfl,
      fun b j hb hj hj8 => ?_, s.setPort_frame _⟩
    · simp [LocalPort.ldo, Response.byte, List.getD_eq_getElem?_getD, hb]
    · simp [LocalPort.ldo, Response.byte, List.getD_eq_getElem?_getD, List.getElem?_eq_none hn]
    · have hb' : Response.byte { r with shifted := r.shifted + 1 } (r.shifted + 1) = b := Option.some.inj hb
      simp only [LocalPort.ldoLevel, if_neg (show j ≠ 0 by omega), hb']

/-- Settles O53: the action of each kind of transaction, and the port at rest. -/
theorem transactionEnds : Obligations.TransactionEnds := by
  unfold Obligations.TransactionEnds
  intro s hl closed
  have hidle (u : State) (hu : u.port = s.port) : closed { u with port := { u.port with state := .idle, lselLow := false } } :=
    ⟨by rw [hu], rfl⟩
  have hend {u : State} (h : s.endAction = u) :
      exec .transactionEnd s = .next { u with port := { u.port with state := .idle, lselLow := false } } := by
    rw [exec_transactionEnd_of_low hl, State.endTransaction_of_endAction h]
  refine ⟨fun hs => .of_eq (hend (s.endAction_of_not_responding ?_)) ⟨hidle _ rfl, s.setPort_frame _⟩,
    fun r hs hk hn => .of_eq (hend (s.endAction_of_status hs hk hn)) ⟨hidle _ rfl, rfl, ?_⟩,
    fun r hs hk hn => .of_eq (hend (s.endAction_of_event hs hk hn)) ⟨hidle _ rfl, ?_, ?_, ?_⟩,
    fun r hs hk => .of_eq (hend (s.endAction_of_no_effect hs hk)) ⟨hidle _ rfl, s.setPort_frame _⟩⟩
  · rintro r hr
    rcases hs with hs | hs | hs <;> rw [hs] at hr <;> cases hr
  · exact State.onlyChanges_comp (s.setEvents_frame _) (State.setPort_frame _ _) (by decide)
  · simp
  · rcases h : s.events.records with _ | ⟨a, _ | ⟨b, l⟩⟩ <;> simp [State.evt]
  · exact State.onlyChanges_comp (s.setEvents_frame _) (State.setPort_frame _ _) (by decide)

/-- Settles O54: each command by the station state, and the transaction that it ends. -/
theorem commandsAreTaken : Obligations.CommandsAreTaken := by
  unfold Obligations.CommandsAreTaken
  intro r s hl hs noted
  have hclear (hk : r.kind = .command .clearCounters) : exec .clearCounters s = .next s.endTransaction :=
    exec_clearCounters_of_recorded hl (LocalPort.recorded_of_command hs hk)
  have hleave (hk : r.kind = .command .leave) : exec .leave s = .next s.endTransaction :=
    exec_leave_of_recorded hl (LocalPort.recorded_of_command hs hk)
  have hrejoin (hk : r.kind = .command .rejoin) : exec .rejoin s = .next s.endTransaction :=
    exec_rejoin_of_recorded hl (LocalPort.recorded_of_command hs hk)
  have hafter {u : State} {c : PortCommand} {result : CommandResult} (hk : r.kind = .command c)
      (ht : s.takeCommand c = (u, result)) (hp : u.port = s.port) : s.endTransaction = s.afterCommand u result :=
    State.endTransaction_of_command hs hk ht hp
  have hcleared (m : Membership) (k : Nat) : m.clearPeers.peers.getD k PeerEntry.cleared = PeerEntry.cleared :=
    getD_replicate_self 16 k _
  refine ⟨fun hk => ?_, fun hk => ⟨fun hm => ?_, fun hm => ?_, fun hm => ?_⟩, fun hk => ⟨fun hm => ?_, fun hm hp => ?_,
    fun hm hp => ?_⟩, fun hk => ?_, fun hk => ?_, fun hk => ?_⟩
  · exact .of_eq ((hclear hk).trans (congrArg _ (hafter hk rfl rfl)))
      ⟨rfl, fun n => by cases n <;> rfl, State.afterCommand_frame (s.setCounters_frame _)⟩
  · exact .of_eq ((hleave hk).trans (congrArg _ (hafter hk (State.takeLeave_of_member hm) rfl)))
      ⟨rfl, rfl, State.afterCommand_frame (s.setMembership_frame _)⟩
  · refine .of_eq ((hleave hk).trans (congrArg _ (hafter hk (State.takeLeave_of_outside hm) rfl)))
      ⟨rfl, rfl, fun k => hcleared s.membership k, rfl, rfl, rfl, rfl, rfl, rfl, rfl, ?_⟩
    exact State.onlyChanges_mono (State.afterCommand_frame s.enterOffline_frame) (by decide)
  · exact .of_eq ((hleave hk).trans (congrArg _ (hafter hk (State.takeLeave_of_refused hm) rfl)))
      ⟨rfl, State.afterCommand_frame (s.onlyChanges_refl _)⟩
  · have hne : s.station ≠ .member := by rw [hm]; decide
    have ht := State.takeRejoin_of_offline hm
    rw [State.enterListening_of_ne hne] at ht
    refine .of_eq ((hrejoin hk).trans (congrArg _ (hafter hk ht rfl)))
      ⟨rfl, rfl, rfl, rfl, rfl, fun k => hcleared s.membership k, rfl, State.afterCommand_frame fun b hb => ?_⟩
    cases b <;> simp_all [Block.same]
  · exact .of_eq ((hrejoin hk).trans (congrArg _ (hafter hk (State.takeRejoin_of_pending hm hp) rfl)))
      ⟨rfl, rfl, State.afterCommand_frame (s.setMembership_frame _)⟩
  · exact .of_eq ((hrejoin hk).trans (congrArg _ (hafter hk (State.takeRejoin_of_refused hm hp) rfl)))
      ⟨rfl, State.afterCommand_frame (s.onlyChanges_refl _)⟩
  · rw [exec_transactionEnd_of_low hl, hclear hk]
  · rw [exec_transactionEnd_of_low hl, hleave hk]
  · rw [exec_transactionEnd_of_low hl, hrejoin hk]

end Sys2Proof.Proofs
end

section
/-! The windows open and the own transmission (O21 to O27). -/

namespace Sys2Proof.Machine

/-! ### Windows open -/

/-- A phase event that reads its place in the schedule from an awaited command. -/
theorem exec_claimWindowStart_peer {s : State} {c : Settings} {k : Nat} (h : s.awaits c k) (hk : k < c.windows)
    (hme : k ≠ s.me) :
    exec (.claimWindowStart k) s = .next ((s.reach c k (c.claimStart k)).openWindow .claim k) := by
  simp only [exec, execClaimWindowStart, h.1, if_pos hk, Settings.placeClaim, State.phase_of_awaits h]
  rw [if_neg (show k ≠ (s.reach c k (c.claimStart k)).me from hme)]

theorem exec_claimWindowStart_own {s : State} {c : Settings} (h : s.awaits c s.me) (hk : s.me < c.windows) :
    exec (.claimWindowStart s.me) s = .next ((s.reach c s.me (c.claimStart s.me)).openOwnClaim c) := by
  simp only [exec, execClaimWindowStart, h.1, if_pos hk, Settings.placeClaim, State.phase_of_awaits h]
  rw [if_pos (show s.me = (s.reach c s.me (c.claimStart s.me)).me from rfl)]
  rfl

theorem exec_digestWindowStart_of_awaits {s : State} {c : Settings} {k : Nat} (h : s.awaits c (c.windows + 1 + k))
    (hk : k < c.windows) : exec (.digestWindowStart k) s = .next
      (if k = s.me ∧ s.station = .member ∧ s.agree.ownDigest.isSome then
        ((s.reach c (c.windows + 1 + k) (c.digestStart k)).openWindow .digest k).startLeadIn .digest
      else (s.reach c (c.windows + 1 + k) (c.digestStart k)).openWindow .digest k) := by
  simp only [exec, execDigestWindowStart, h.1, if_pos hk, Settings.placeDigest, State.phase_of_awaits h]
  rfl

theorem State.datPulled_of_not_sending {s : State} (h : ∀ kind bytes, s.bus.tx ≠ .sending kind bytes) : s.datPulled = false := by
  unfold State.datPulled
  split
  · next c kind bytes _ htx => exact absurd htx (h kind bytes)
  · rfl

theorem State.engineKept_of_eq {s t u : State} (h : s.engineKept t) (he : u.engine = t.engine) : s.engineKept u := by
  rw [State.engineKept, he]
  exact h

theorem State.openOwnClaim_of_reaction {s u : State} {c : Settings}
    (h : (s.openWindow .claim s.me).ownWindowReaction c = u) :
    s.openOwnClaim c = if u.station.announces then u.startLeadIn .claim else u := by
  rw [State.openOwnClaim, h]

/-- The own claim window opens in a station that is no MEMBER (R23, R105). -/
theorem State.openOwnClaim_of_not_member {s : State} (c : Settings) (h : s.station ≠ .member) : s.openOwnClaim c = { s with
    bus := { s.bus with
      window := some (.claim, s.me)
      tx := if s.station.announces then .leadIn .claim s.station s.timer.frame s.membership.heardMap else s.bus.tx }
    demand := { s.demand with claimRecord := [] } } := by
  have hr : (s.openWindow .claim s.me).ownWindowReaction c =
      { s.openWindow .claim s.me with demand := { s.demand with claimRecord := [] } } := by
    rw [State.ownWindowReaction, if_neg (show (s.openWindow .claim s.me).station ≠ .member from h)]
    rfl
  refine (State.openOwnClaim_of_reaction hr).trans ?_
  by_cases ha : s.station.announces = true
  · rw [if_pos ha]
    exact if_pos ha
  · rw [if_neg ha]
    exact if_neg ha

/-- The own claim window opens at a MEMBER without leave pending (R23, R105). -/
theorem State.openOwnClaim_of_member {s : State} (c : Settings) (h : s.station = .member)
    (hp : s.membership.leavePending = false) : s.openOwnClaim c = { s with
      bus := { s.bus with window := some (.claim, s.me), tx := .leadIn .claim .member s.timer.frame s.membership.heardMap }
      demand := { s.demand with claimRecord := claimsOf c s.demand.entries } } := by
  have hr : (s.openWindow .claim s.me).ownWindowReaction c =
      { s.openWindow .claim s.me with demand := { s.demand with claimRecord := claimsOf c s.demand.entries } } := by
    rw [State.ownWindowReaction, if_pos (show (s.openWindow .claim s.me).station = .member from h),
      if_neg (show ¬ (s.openWindow .claim s.me).membership.leavePending = true by simp [hp])]
    rfl
  have hs : s.station.announces = true := by rw [h]; rfl
  rw [← h]
  exact (State.openOwnClaim_of_reaction hr).trans (if_pos hs)

/-- A queue without a running exposure is cancelled with one record for each entry (R113). -/
theorem State.cancelQueue_of_none_running {s : State} (h : ∀ it ∈ s.demand.exposures, it.running = false) :
    s.cancelQueue = ({ s with demand := { s.demand with entries := [], claimRecord := [], exposures := [] } } : State).offerAll
      (s.demand.entries.map (cancelledRecord s.timer.frame)) := by
  simp only [State.cancelQueue, s.abortItem_of_none h]
  rfl

theorem State.enterLeaving_of_member {s : State} (hm : s.station = .member)
    (h : ∀ it ∈ s.demand.exposures, it.running = false) : s.enterLeaving = { s with
      membership := { s.membership with station := .leaving, leavePending := false }
      demand := { s.demand with entries := [], claimRecord := [], exposures := [] }
      agree := { s.agree with verdict := .none, ownDigest := none }
      events := (s.demand.entries.map (cancelledRecord s.timer.frame)).foldl EventQueue.offer s.events } := by
  simp only [State.enterLeaving, State.exitMember, if_pos hm, State.cancelQueue_of_none_running h]
  rfl

/-- The own claim window opens at a MEMBER with leave pending (R62, R113). -/
theorem State.openOwnClaim_of_leavePending {s : State} (c : Settings) (hm : s.station = .member)
    (hp : s.membership.leavePending = true) (h : ∀ it ∈ s.demand.exposures, it.running = false) : s.openOwnClaim c = { s with
      bus := { s.bus with window := some (.claim, s.me), tx := .leadIn .claim .leaving s.timer.frame s.membership.heardMap }
      membership := { s.membership with station := .leaving, leavePending := false }
      demand := { s.demand with entries := [], claimRecord := [], exposures := [] }
      agree := { s.agree with verdict := .none, ownDigest := none }
      events := (s.demand.entries.map (cancelledRecord s.timer.frame)).foldl EventQueue.offer s.events } := by
  have hr := State.enterLeaving_of_member (s := s.openWindow .claim s.me) hm h
  rw [← show (s.openWindow .claim s.me).ownWindowReaction c = (s.openWindow .claim s.me).enterLeaving by
    rw [State.ownWindowReaction, if_pos (show (s.openWindow .claim s.me).station = .member from hm),
      if_pos (show (s.openWindow .claim s.me).membership.leavePending = true from hp)]] at hr
  exact (State.openOwnClaim_of_reaction hr).trans (if_pos rfl)

/-! ### The own claims (R100, R105) -/

/-- What one class claims, if it claims. -/
theorem mem_claimOf (c : Settings) (entries : List DemandEntry) (cls : Nat) (x : Claim) : x ∈ claimOf c entries cls ↔
    x.cls = cls ∧ x.priority = (c.classOf cls).priority ∧ x.span = c.classSpan cls ∧
    (((c.classOf cls).source = .periodic ∧ x.count = (c.classOf cls).limit) ∨
      (((c.classOf cls).source = .trga ∨ (c.classOf cls).source = .trgb) ∧
        (entries.filter (fun e => e.cls == cls && e.bound == none)).length ≠ 0 ∧
        x.count = min (entries.filter (fun e => e.cls == cls && e.bound == none)).length (c.classOf cls).limit)) := by
  obtain ⟨xc, xp, xs, xn⟩ := x
  unfold claimOf
  dsimp only
  generalize (entries.filter (fun e => e.cls == cls && e.bound == none)).length = n
  cases hs : (c.classOf cls).source with
  | none => simp
  | periodic => simp
  | trga | trgb =>
    by_cases hn : n = 0
    · simp [hn]
    · simp [hn]

theorem mem_claimsOf (c : Settings) (entries : List DemandEntry) (x : Claim) :
    x ∈ claimsOf c entries ↔ x.cls < 4 ∧ x ∈ claimOf c entries x.cls := by
  have hcls {i : Nat} (h : x ∈ claimOf c entries i) : x.cls = i := ((mem_claimOf c entries i x).mp h).1
  simp only [claimsOf, List.mem_flatMap]
  refine ⟨fun ⟨i, hi, hx⟩ => ?_, fun ⟨hlt, hx⟩ => ⟨x.cls, ?_, hx⟩⟩
  · have he := hcls hx
    exact ⟨by rw [he]; simp at hi; omega, he ▸ hx⟩
  · simp; omega

theorem claimOf_map_cls (c : Settings) (entries : List DemandEntry) (cls : Nat) :
    (claimOf c entries cls).map (·.cls) = [] ∨ (claimOf c entries cls).map (·.cls) = [cls] := by
  unfold claimOf
  dsimp only
  split
  · exact .inl rfl
  · exact .inr rfl
  · split
    · exact .inl rfl
    · exact .inr rfl

/-- The claims stand in ascending class order, one for a class at most. -/
theorem claimsOf_pairwise (c : Settings) (entries : List DemandEntry) :
    ((claimsOf c entries).map (·.cls)).Pairwise (fun x y => x < y) := by
  rw [claimsOf, List.map_flatMap]
  refine List.pairwise_flatMap.mpr ⟨fun i _ => ?_, ?_⟩
  · rcases claimOf_map_cls c entries i with h | h <;> rw [h] <;> simp
  · refine List.Pairwise.imp (R := fun i j => i < j) (fun {i j} hij x hx y hy => ?_) (by decide)
    have hmem {a k : Nat} (ha : a ∈ (claimOf c entries k).map (·.cls)) : a = k := by
      rcases claimOf_map_cls c entries k with h | h <;> rw [h] at ha <;> simp_all
    rw [hmem hx, hmem hy]
    exact hij

/-! ### The own transmission -/

/-- The end of the lead-in fixes the content (R24). -/
theorem exec_leadInEnd_of_content {s : State} {c : Settings} {kind : WindowKind} {st : StationState} {frame : Byte}
    {heard : Half} {bytes : List Byte} (hc : s.cfg = some c) (htx : s.bus.tx = .leadIn kind st frame heard)
    (hb : s.content c kind st frame heard = some bytes) : exec .leadInEnd s =
      .next ((s.advanceTo c (c.windowStart kind s.me + 2 * c.bitTu)).setTx (.sending kind bytes)) := by
  simp only [exec, execLeadInEnd, hc, htx, hb]
  rfl

theorem State.content_of_joining (s : State) (c : Settings) (frame : Byte) (heard : Half) :
    s.content c .claim .joining frame heard = some (s.announcement c frame heard true false []).encode := rfl

theorem State.content_of_member {s : State} (h : s.station = .member) (c : Settings) (frame : Byte) (heard : Half) :
    s.content c .claim .member frame heard = some (s.announcement c frame heard false false s.demand.claimRecord).encode := by
  simp only [State.content, h]
  rfl

theorem State.content_of_leaving {s : State} (h : s.station = .leaving) (c : Settings) (frame : Byte) (heard : Half) :
    s.content c .claim .leaving frame heard = some (s.announcement c frame heard false true []).encode := by
  simp only [State.content, h]
  rfl

theorem State.content_of_digest {s : State} {d : Half} (h : s.station = .member) (hd : s.agree.ownDigest = some d)
    (c : Settings) (st : StationState) (frame : Byte) (heard : Half) : s.content c .digest st frame heard =
      some (DigestMessage.encode { station := s.me, frame := s.timer.frame, digest := d }) := by
  simp only [State.content, h, hd, if_true]
  rfl

theorem exec_messageSent_of_sending {s : State} {c : Settings} {kind : WindowKind} {bytes : List Byte} (hc : s.cfg = some c)
    (htx : s.bus.tx = .sending kind bytes) :
    exec .messageSent s = .next ((s.toSample c kind (1 + 10 * bytes.length)).setTx (.done kind .sent)) := by
  simp only [exec, execMessageSent, hc, htx]
  rfl

theorem State.advanceClock_frameNumber (s : State) (c : Settings) (v clocks : Nat) :
    (s.advanceClock c v clocks).timer.frame = s.timer.frame := by
  unfold State.advanceClock
  dsimp only
  split <;> rfl

theorem State.toSample_frame (s : State) (c : Settings) (kind : WindowKind) (i : Nat) :
    s.onlyChanges (s.toSample c kind i) [.timer, .engine] := s.advanceClock_frame c _ _

theorem State.toSample_bus (s : State) (c : Settings) (kind : WindowKind) (i : Nat) :
    (s.toSample c kind i).bus = s.bus := s.toSample_frame c kind i .bus (by decide)

/-- The sample point of a bit is reached to the REFCLK period, where it is not behind (R21). -/
theorem State.toSample_timer {s : State} {c : Settings} {kind : WindowKind} {i : Nat} (hm : s.timer.mode = .running)
    (hv : s.timer.value < s.sampleTu c kind i ∨
      (s.timer.value = s.sampleTu c kind i ∧ s.timer.prescaler ≤ c.sampleClocks % c.divider))
    (hl : s.sampleTu c kind i ≤ c.frameLength) : (s.toSample c kind i).timer.value = s.sampleTu c kind i ∧
      (s.toSample c kind i).timer.prescaler = c.sampleClocks % c.divider :=
  s.advanceClock_timer c _ _ hm (by omega) hl (by omega)

theorem messageBits_length (bytes : List Byte) : (messageBits bytes).length = 10 * bytes.length := by
  induction bytes with
  | nil => rfl
  | cons b bytes ih => simp only [messageBits, List.flatMap_cons, List.length_append, List.length_cons] at ih ⊢; rw [ih]; simp [byteBits]; omega

theorem drivenHigh_of_lt_two (bytes : List Byte) {i : Nat} (h : i < 2) : drivenHigh (some bytes) i = true := if_pos h

theorem drivenHigh_of_getElem? {bytes : List Byte} {j : Nat} {b : Bool} (h : (messageBits bytes)[j]? = some b) :
    drivenHigh (some bytes) (2 + j) = b := by
  rw [drivenHigh, if_neg (by omega), Nat.add_sub_cancel_left, List.getD_eq_getElem?_getD, h]
  rfl

theorem exec_collision_of_leadIn {s : State} {c : Settings} {kind : WindowKind} {st : StationState} {frame : Byte}
    {heard : Half} {bit : Nat} (hc : s.cfg = some c) (htx : s.bus.tx = .leadIn kind st frame heard) (hb : bit < 2) :
    exec (.collision bit) s = .next (s.collide c kind bit) := by
  simp only [exec, execCollision, hc, htx, if_pos hb]

theorem exec_collision_of_released {s : State} {c : Settings} {kind : WindowKind} {bytes : List Byte} {bit : Nat}
    (hc : s.cfg = some c) (htx : s.bus.tx = .sending kind bytes) (hb : bit < 2 + 10 * bytes.length)
    (hd : drivenHigh (some bytes) bit = true) : exec (.collision bit) s = .next (s.collide c kind bit) := by
  simp only [exec, execCollision, hc, htx, if_pos (And.intro hb hd)]

theorem exec_collision_of_pulled {s : State} {c : Settings} {kind : WindowKind} {bytes : List Byte} {bit : Nat}
    (hc : s.cfg = some c) (htx : s.bus.tx = .sending kind bytes) (hd : drivenHigh (some bytes) bit = false) :
    exec (.collision bit) s = .next s := by
  simp only [exec, execCollision, hc, htx, hd]
  simp

end Sys2Proof.Machine

namespace Sys2Proof.Proofs

open Sys2Proof.Machine

/-- Settles O21: a peer's window, and the own one in a station that forms no claims. -/
theorem claimWindowWithoutClaims : Obligations.ClaimWindowWithoutClaims := by
  unfold Obligations.ClaimWindowWithoutClaims
  refine ⟨fun k s c h hk hme hv => .of_eq (exec_claimWindowStart_peer h hk hme) ?_, fun s c h hk hs =>
    .of_eq (exec_claimWindowStart_own h hk) ?_⟩
  · have ⟨_, hm, _⟩ := h
    exact ⟨s.reach_value c k _ hm hv (c.claimStart_le hk), hm, rfl, rfl, rfl, s.reach_engineKept c k _,
      State.onlyChanges_comp (s.reach_frame c k _) (State.openWindow_frame _ _ _) (by decide)⟩
  · rw [State.openOwnClaim_of_not_member c (show (s.reach c s.me (c.claimStart s.me)).station ≠ .member from hs)]
    refine ⟨rfl, rfl, fun ha => if_pos ?_, fun ha => if_neg ?_, s.reach_engineKept c s.me _, ?_⟩
    · rcases ha with ha | ha <;> exact (congrArg StationState.announces ha).trans rfl
    · have hn : s.station.announces = false := by rcases ha with ha | ha | ha <;> exact (congrArg StationState.announces ha).trans rfl
      exact Bool.eq_false_iff.mp hn
    · refine State.onlyChanges_comp (s.reach_frame c s.me (c.claimStart s.me)) (l' := [.bus, .demand]) (fun b hb => ?_)
        (by decide)
      cases b <;> simp_all [Block.same]

/-- Settles O22: the claims of the four classes. -/
theorem ownClaimsAreFormed : Obligations.OwnClaimsAreFormed := by
  unfold Obligations.OwnClaimsAreFormed
  intro s c h hk hm hp waiting
  refine .of_eq (exec_claimWindowStart_own h hk) ?_
  rw [State.openOwnClaim_of_member c (show (s.reach c s.me (c.claimStart s.me)).station = .member from hm) hp]
  refine ⟨fun x => (mem_claimsOf c s.demand.entries x).trans (and_congr_right fun _ => ?_), claimsOf_pairwise c _, rfl, rfl,
    State.datPulled_of_not_sending (fun _ _ e => by cases e), s.reach_engineKept c s.me _, ?_⟩
  · rw [mem_claimOf, eq_self, true_and]
    rfl
  · refine State.onlyChanges_comp (s.reach_frame c s.me (c.claimStart s.me)) (l' := [.bus, .demand]) (fun b hb => ?_)
      (by decide)
    cases b <;> simp_all [Block.same]

/-- Settles O23: the exit from MEMBER at the own claim window start. -/
theorem leavePendingBecomesLeaving : Obligations.LeavePendingBecomesLeaving := by
  unfold Obligations.LeavePendingBecomesLeaving
  intro s c h hk hm hp hr
  refine .of_eq (exec_claimWindowStart_own h hk) ?_
  rw [State.openOwnClaim_of_leavePending c (show (s.reach c s.me (c.claimStart s.me)).station = .member from hm) hp hr]
  refine ⟨rfl, rfl, rfl, rfl, rfl, rfl, rfl, s.reach_engineKept c s.me _, ?_⟩
  refine State.onlyChanges_comp (s.reach_frame c s.me (c.claimStart s.me))
    (l' := [.bus, .membership, .agree, .demand, .events]) (fun b hb => ?_) (by decide)
  cases b <;> simp_all [Block.same]

/-- Settles O24: the digest window with and without an own digest message. -/
theorem digestWindowOpens : Obligations.DigestWindowOpens := by
  unfold Obligations.DigestWindowOpens
  intro k s c h hk hv
  have ⟨_, hrun, _⟩ := h
  have hvalue := s.reach_value c (c.windows + 1 + k) (c.digestStart k) hrun hv
    (Nat.le_trans (c.digestStart_le hk) c.digestClose_le)
  have hopen := State.onlyChanges_comp (s.reach_frame c (c.windows + 1 + k) (c.digestStart k))
    (State.openWindow_frame _ .digest k) (m := [.timer, .bus, .engine]) (by decide)
  have hplace : c.windows + 1 + k + 1 = c.windows + 2 + k := by omega
  refine .of_eq (exec_digestWindowStart_of_awaits h hk) ?_
  by_cases hd : k = s.me ∧ s.station = .member ∧ s.agree.ownDigest.isSome
  · rw [if_pos hd]
    obtain ⟨hme, hm, hsome⟩ := hd
    refine ⟨hvalue, hplace, rfl, fun _ _ _ => ?_, fun hn => ?_, s.reach_engineKept c (c.windows + 1 + k) _,
      State.onlyChanges_comp hopen (State.startLeadIn_frame _ _) (by decide)⟩
    · simp only [State.startLeadIn_bus, State.openWindow_bus, State.reach_bus]
      rw [← hm]
      rfl
    · rcases hn with hn | hn | hn
      · exact absurd hme hn
      · exact absurd hm hn
      · rw [hn] at hsome; cases hsome
  · rw [if_neg hd]
    exact ⟨hvalue, hplace, rfl, fun h1 h2 h3 => absurd ⟨h1, h2, h3⟩ hd, fun _ => rfl, s.reach_engineKept c (c.windows + 1 + k) _, hopen⟩

/-- Settles O25: the content of the four kinds of message. -/
theorem contentIsFixedAtLeadInEnd : Obligations.ContentIsFixedAtLeadInEnd := by
  unfold Obligations.ContentIsFixedAtLeadInEnd
  intro s c frame heard hc sent message
  have hsent (kind : WindowKind) (bytes : List Byte) (v : Nat) :
      sent kind bytes ((s.advanceTo c v).setTx (.sending kind bytes)) :=
    ⟨rfl, s.advanceTo_engineKept c v, State.onlyChanges_comp (s.advanceTo_frame c v) (State.setTx_frame _ _) (by decide)⟩
  exact ⟨fun htx => .of_eq (exec_leadInEnd_of_content hc htx (s.content_of_joining c frame heard)) (hsent _ _ _),
    fun htx hs => .of_eq (exec_leadInEnd_of_content hc htx (State.content_of_member hs c frame heard)) (hsent _ _ _),
    fun htx hs => .of_eq (exec_leadInEnd_of_content hc htx (State.content_of_leaving hs c frame heard)) (hsent _ _ _),
    fun d htx hs hd => .of_eq (exec_leadInEnd_of_content hc htx (State.content_of_digest hs hd c _ frame heard)) (hsent _ _ _)⟩

/-- Settles O26: time passes to the sample of the last stop bit. -/
theorem messageIsSent : Obligations.MessageIsSent := by
  unfold Obligations.MessageIsSent
  intro kind bytes s c hc htx hm sample clocks hv hl
  obtain ⟨hvalue, hclocks⟩ := State.toSample_timer (i := 1 + 10 * bytes.length) hm hv hl
  refine .of_eq (exec_messageSent_of_sending hc htx) ⟨?_, hvalue, hclocks, s.advanceClock_frameNumber c _ _,
    State.datPulled_of_not_sending (fun _ _ e => by cases e), s.advanceClock_engineKept c _ _,
    State.onlyChanges_comp (s.toSample_frame c kind _) (State.setTx_frame _ _) (by decide)⟩
  simp only [State.setTx, State.toSample_bus]

/-- Settles O27: a mismatch at a released bit, and none at one that the transmitter pulls. -/
theorem collisionEndsTransmission : Obligations.CollisionEndsTransmission := by
  unfold Obligations.CollisionEndsTransmission
  intro kind bit s c hc sample clocks record collided
  have hcollided : collided (s.collide c kind bit) := by
    have hframe := s.toSample_frame c kind bit
    have hev : (s.toSample c kind bit).events = s.events := hframe .events (by decide)
    have hct : (s.toSample c kind bit).counters = s.counters := hframe .counters (by decide)
    have hrec : (s.collide c kind bit).events = s.events.offer record := by
      simp only [State.collide, State.offer_events, State.count_events, hev]
      cases kind <;> rfl
    refine ⟨?_, State.datPulled_of_not_sending (fun _ _ e => by cases e), ?_, hrec, fun hn => ?_, fun hn => ?_,
      fun hm hl hv => State.toSample_timer hm hv hl, s.advanceClock_engineKept c _ _, s.collide_frame c kind bit⟩
    · simp only [State.collide, State.offer_bus, State.count_bus, State.toSample_bus]
    · simp only [State.collide, State.offer_counters, State.count_counters, hct]
    · rw [hrec, EventQueue.offer, if_pos hn]
    · rw [hrec, EventQueue.offer, if_neg (Nat.not_lt.mpr hn)]
  refine ⟨fun st frame heard htx hb => .of_eq (exec_collision_of_leadIn hc htx hb) hcollided,
    fun bytes htx hb hne => .of_eq (exec_collision_of_released hc htx (by omega) (drivenHigh_of_lt_two bytes hb)) hcollided,
    fun bytes j htx hb hj => ?_, fun bytes j htx hb hj => ?_⟩
  · have hlt : j < 10 * bytes.length := messageBits_length bytes ▸ (List.getElem?_eq_some_iff.mp hj).1
    subst hb
    exact .of_eq (exec_collision_of_released hc htx (by omega) (drivenHigh_of_getElem? hj)) hcollided
  · subst hb
    exact .of_eq (exec_collision_of_pulled hc htx (drivenHigh_of_getElem? hj)) rfl

end Sys2Proof.Proofs
end

section
/-! Marks, expiry, self-start and bus fault (O12 to O20). -/

namespace Sys2Proof.Machine

/-! ### The Demand Queue at a mark (R111, R112) -/

theorem DemandQueue.drop_entries (q : DemandQueue) (it : ExposureItem) : (q.drop it).entries =
    if it.request.isSome then q.entries.filter (fun e => decide (e.bound ≠ some (it.slot, it.channel))) else q.entries := by
  have h (e : DemandEntry) : (e.bound != some (it.slot, it.channel)) = decide (e.bound ≠ some (it.slot, it.channel)) := by
    rw [Bool.eq_iff_iff, bne_iff_ne, decide_eq_true_eq]
  simp only [DemandQueue.drop, h]

theorem State.abortItem_of_some {s : State} {it : ExposureItem} (h : s.demand.exposures.find? (·.running) = some it) :
    s.abortItem = (({ s with demand := s.demand.drop it } : State).count .aborts 1).offer
      (exposureRecord .aborted s.timer.frame it) := by
  rw [State.abortItem, h]

theorem State.retire_of_some {s : State} {slot channel : Nat} {it : ExposureItem} (h : s.demand.itemAt slot channel = some it) :
    s.retire slot channel = (({ s with demand := s.demand.drop it } : State).count .exposures 1).offer
      (exposureRecord .exposed s.timer.frame it) := by
  rw [State.retire, h]

theorem State.endExposure_of_some {s : State} {r : RunningPattern} {it : ExposureItem} (c : Settings) (ended : Bool)
    (h : s.demand.itemAt r.slot r.channel = some it) : s.endExposure c r ended =
      (({ s with engine := PatternEngine.rest c ended, demand := s.demand.drop it } : State).count .exposures 1).offer
        (exposureRecord .exposed s.timer.frame it) :=
  State.retire_of_some (s := { s with engine := PatternEngine.rest c ended }) h

/-- The queue ages: entries over their age leave with their records, the others are one mark older and PENDING (R112). -/
def State.ageQueue (s : State) (c : Settings) : State :=
  { s with
    demand := { s.demand with entries := survivors c s.demand.entries, claimRecord := [], exposures := [] }
    counters := s.counters.add .expiries (overAge c s.demand.entries).length
    events := ((overAge c s.demand.entries).map (expiredRecord s.timer.frame)).foldl EventQueue.offer s.events }

theorem ageEntries_map_unbound (c : Settings) (l : List DemandEntry) :
    ageEntries c (l.map fun e => { e with bound := none }) = survivors c l := by
  induction l with
  | nil => rfl
  | cons e l ih =>
    simp only [ageEntries, survivors, List.map_cons, List.filter_cons, List.filterMap_cons] at ih ⊢
    by_cases h : e.age < (c.classOf e.cls).maxAge
    · simp [h, ih]
    · simp [h, ih]

theorem expiredEntries_map_unbound (c : Settings) (l : List DemandEntry) :
    expiredEntries c (l.map fun e => { e with bound := none }) = (overAge c l).map fun e => { e with bound := none } := by
  induction l with
  | nil => rfl
  | cons e l ih =>
    simp only [expiredEntries, overAge, List.map_cons, List.filter_cons] at ih ⊢
    rw [ih]
    by_cases h : e.age < (c.classOf e.cls).maxAge
    · simp [h, Nat.not_le.mpr h]
    · simp [h, Nat.not_lt.mp h]

theorem State.demandMark_eq (s : State) (c : Settings) (cls : MarkClass) :
    s.demandMark c cls = (if cls = .runt then s.abortItem else s).ageQueue c := by
  unfold State.demandMark
  extract_lets s1 waiting gone _ s2
  have hw : ageEntries c waiting = survivors c s1.demand.entries := ageEntries_map_unbound c _
  have hg : gone = (overAge c s1.demand.entries).map fun e => { e with bound := none } := expiredEntries_map_unbound c _
  unfold s2 State.ageQueue
  rw [hw, hg, List.length_map, List.map_map]
  rfl

theorem survivors_unbound (c : Settings) (l : List DemandEntry) : ∀ e ∈ survivors c l, e.bound = none := by
  intro e he
  obtain ⟨x, -, hx⟩ := List.mem_filterMap.mp he
  split at hx
  · cases hx; rfl
  · cases hx

/-! ### What a mark leaves -/

/-- The state at a mark after the Frame Timer, the Pattern Engine and the Demand Queue have taken it. -/
def State.afterQueues (s : State) (c : Settings) (cls : MarkClass) (selfStart pulls : Bool) : State :=
  let s0 := if cls = .runt then s.noteRunt c else s
  (({ s0 with timer := s0.timer.mark selfStart pulls (s.lapsing c) } : State).engineMark c cls).demandMark c cls

theorem State.noteRunt_timer (s : State) (c : Settings) (cls : MarkClass) :
    (if cls = .runt then s.noteRunt c else s).timer = s.timer := by split <;> rfl

theorem State.afterQueues_frame (s : State) (c : Settings) (cls : MarkClass) (selfStart pulls : Bool) :
    s.onlyChanges (s.afterQueues c cls selfStart pulls) [.timer, .demand, .engine, .events, .counters] := by
  unfold State.afterQueues
  extract_lets s0
  have h0 : s.onlyChanges s0 [.events, .counters] := by
    unfold s0
    split
    · exact s.noteRunt_frame c
    · exact s.onlyChanges_refl _
  have h1 := State.onlyChanges_comp h0 (s0.setTimer_frame (s0.timer.mark selfStart pulls (s.lapsing c)))
    (m := [.timer, .events, .counters]) (by decide)
  have h2 := State.onlyChanges_comp h1 (State.engineMark_frame _ c cls) (m := [.timer, .demand, .engine, .events, .counters])
    (by decide)
  exact State.onlyChanges_comp h2 (State.demandMark_frame _ c cls) (by decide)

theorem State.afterQueues_timer (s : State) (c : Settings) (cls : MarkClass) (selfStart pulls : Bool) :
    (s.afterQueues c cls selfStart pulls).timer = s.timer.mark selfStart pulls (s.lapsing c) := by
  unfold State.afterQueues
  extract_lets s0
  have h1 := State.demandMark_frame (({ s0 with timer := s0.timer.mark selfStart pulls (s.lapsing c) } : State).engineMark c cls)
    c cls .timer (by decide)
  have h2 := State.engineMark_frame ({ s0 with timer := s0.timer.mark selfStart pulls (s.lapsing c) } : State) c cls .timer
    (by decide)
  exact h1.trans (h2.trans (by rw [show s0.timer = s.timer from s.noteRunt_timer c cls]))

theorem State.afterQueues_membership (s : State) (c : Settings) (cls : MarkClass) (selfStart pulls : Bool) :
    (s.afterQueues c cls selfStart pulls).membership = s.membership := s.afterQueues_frame c cls _ _ .membership (by decide)

/-- A mark, as the queues' part of it, the Membership Unit's, and what every mark clears (R6, R27, R68, R85). -/
theorem State.takeMark_eq (s : State) (c : Settings) (cls : MarkClass) (selfStart pulls : Bool) :
    s.takeMark c cls selfStart pulls =
      { (s.afterQueues c cls selfStart pulls).membershipMark cls selfStart with
        alloc := Allocator.cleared c
        agree := s.agree.mark
        bus := BusInterface.reset
        engine := { (s.afterQueues c cls selfStart pulls).engine with justEnded := false, gap := false } } := by
  have hm := State.membershipMark_frame (s.afterQueues c cls selfStart pulls) cls selfStart
  have ha : ((s.afterQueues c cls selfStart pulls).membershipMark cls selfStart).agree = s.agree :=
    (hm .agree (by decide)).trans (s.afterQueues_frame c cls selfStart pulls .agree (by decide))
  have he : ((s.afterQueues c cls selfStart pulls).membershipMark cls selfStart).engine =
    (s.afterQueues c cls selfStart pulls).engine := hm .engine (by decide)
  rw [← ha, ← he]
  rfl

theorem State.takeMark_demand (s : State) (c : Settings) (cls : MarkClass) (selfStart pulls : Bool) :
    (s.takeMark c cls selfStart pulls).demand = (s.afterQueues c cls selfStart pulls).demand := by
  rw [s.takeMark_eq]
  exact State.membershipMark_frame _ cls selfStart .demand (by decide)

theorem State.takeMark_counters (s : State) (c : Settings) (cls : MarkClass) (selfStart pulls : Bool) :
    (s.takeMark c cls selfStart pulls).counters = (s.afterQueues c cls selfStart pulls).counters := by
  rw [s.takeMark_eq]
  exact State.membershipMark_frame _ cls selfStart .counters (by decide)

theorem State.takeMark_engine (s : State) (c : Settings) (cls : MarkClass) (selfStart pulls : Bool) :
    (s.takeMark c cls selfStart pulls).engine =
      { (s.afterQueues c cls selfStart pulls).engine with justEnded := false, gap := false } := by rw [s.takeMark_eq]

theorem State.takeMark_membership (s : State) (c : Settings) (cls : MarkClass) (selfStart pulls : Bool) :
    (s.takeMark c cls selfStart pulls).membership =
      ((s.afterQueues c cls selfStart pulls).membershipMark cls selfStart).membership := by rw [s.takeMark_eq]

theorem State.takeMark_events (s : State) (c : Settings) (cls : MarkClass) (selfStart pulls : Bool) :
    (s.takeMark c cls selfStart pulls).events =
      ((s.afterQueues c cls selfStart pulls).membershipMark cls selfStart).events := by rw [s.takeMark_eq]

/-! ### The Membership Unit at a mark -/

theorem State.membershipMark_of_start {s : State} (cls : MarkClass) (h : s.station = .listening) : s.membershipMark cls true =
    ({ s with membership := s.membership.formHeardMap } : State).enterJoining := by
  simp only [State.membershipMark, h, if_true]

theorem State.membershipMark_of_end {s : State} (h : s.station = .listening) (ho : s.membership.observation = .observing) :
    s.membershipMark .normal false = ({ s with membership := s.membership.formHeardMap } : State).endListening := by
  simp only [State.membershipMark, h, ho, and_self, if_true, Bool.false_eq_true, if_false]

theorem State.membershipMark_of_observe {s : State} {cls : MarkClass} (h : s.station = .listening)
    (ho : ¬ (cls = .normal ∧ s.membership.observation = .observing)) :
    s.membershipMark cls false = ({ s with membership := s.membership.formHeardMap } : State).observe := by
  simp only [State.membershipMark, h, ho, if_false, Bool.false_eq_true]

theorem State.membershipMark_of_leaving {s : State} (cls : MarkClass) (self : Bool) (h : s.station = .leaving) :
    s.membershipMark cls self = ({ s with membership := s.membership.formHeardMap } : State).enterOffline := by
  simp only [State.membershipMark, h]

theorem State.membershipMark_of_other {s : State} (cls : MarkClass) (self : Bool) (hl : s.station ≠ .listening)
    (hv : s.station ≠ .leaving) : s.membershipMark cls self = { s with membership := s.membership.formHeardMap } := by
  unfold State.membershipMark
  dsimp only
  split
  · exact absurd ‹_› hl
  · exact absurd ‹_› hv
  · rfl

/-- Of the Frame Timer the Membership Unit's reaction changes the frame number alone: the mark has restarted the silence timer. -/
theorem State.membershipMark_timer {s : State} (cls : MarkClass) (self : Bool) (h : s.timer.silence = 0) :
    (s.membershipMark cls self).timer = { s.timer with frame := (s.membershipMark cls self).timer.frame } := by
  have hs : s.timer = { s.timer with silence := 0 } := by rw [← h]
  unfold State.membershipMark
  dsimp only
  split
  · split
    · exact hs.symm
    · split
      · simp [State.endListening, h]
      · rfl
  · exact hs.symm
  · rfl

theorem State.membershipMark_frameNumber {s : State} (cls : MarkClass) (self : Bool) (h : s.station ≠ .listening) :
    (s.membershipMark cls self).timer.frame = s.timer.frame := by
  unfold State.membershipMark
  dsimp only
  split
  · exact absurd ‹_› h
  · rfl
  · rfl

theorem State.takeMark_timer (s : State) (c : Settings) (cls : MarkClass) (selfStart pulls : Bool) :
    (s.takeMark c cls selfStart pulls).timer =
      { s.timer.mark selfStart pulls (s.lapsing c) with frame := (s.takeMark c cls selfStart pulls).timer.frame } := by
  have h : (s.takeMark c cls selfStart pulls).timer =
      ((s.afterQueues c cls selfStart pulls).membershipMark cls selfStart).timer := by rw [s.takeMark_eq]
  rw [h, State.membershipMark_timer cls selfStart (by rw [s.afterQueues_timer]; rfl), s.afterQueues_timer]

/-- The frame number at a mark that is no self-start, in a station that does not end LISTENING (R13). -/
theorem State.takeMark_frameNumber {s : State} (c : Settings) (cls : MarkClass) (pulls : Bool) (h : s.station ≠ .listening) :
    (s.takeMark c cls false pulls).timer.frame = s.timer.frame + 1 := by
  have hs : (s.afterQueues c cls false pulls).station ≠ .listening := by
    rw [State.station, s.afterQueues_membership]; exact h
  rw [s.takeMark_eq]
  exact (State.membershipMark_frameNumber cls false hs).trans (by rw [s.afterQueues_timer]; rfl)

theorem State.takeMark_restarts (s : State) (c : Settings) (cls : MarkClass) (selfStart pulls : Bool) :
    (s.takeMark c cls selfStart pulls).timerRestarted pulls := by
  rw [State.timerRestarted, s.takeMark_timer]
  exact ⟨rfl, rfl, rfl, rfl, rfl, rfl, rfl, rfl⟩

theorem State.takeMark_lapsed (s : State) (c : Settings) (cls : MarkClass) (selfStart pulls : Bool) :
    (s.takeMark c cls selfStart pulls).timer.lapsed = s.lapsing c := by rw [s.takeMark_timer]; rfl

theorem State.abortItem_nextRequest (s : State) : s.abortItem.demand.nextRequest = s.demand.nextRequest := by
  unfold State.abortItem
  split <;> rfl

theorem State.retire_nextRequest (s : State) (slot channel : Nat) :
    (s.retire slot channel).demand.nextRequest = s.demand.nextRequest := by
  unfold State.retire
  split <;> rfl

theorem State.engineMark_nextRequest (s : State) (c : Settings) (cls : MarkClass) :
    (s.engineMark c cls).demand.nextRequest = s.demand.nextRequest := by
  unfold State.engineMark
  split
  · exact congrArg DemandQueue.nextRequest (s.abortEngine_frame c .demand (by decide))
  · exact State.retire_nextRequest _ _ _
  · rfl

theorem State.afterQueues_demand (s : State) (c : Settings) (cls : MarkClass) (selfStart pulls : Bool) :
    (s.afterQueues c cls selfStart pulls).demand.exposures = [] ∧
    (s.afterQueues c cls selfStart pulls).demand.claimRecord = [] ∧
    (∀ e ∈ (s.afterQueues c cls selfStart pulls).demand.entries, e.bound = none) ∧
    (s.afterQueues c cls selfStart pulls).demand.nextRequest = s.demand.nextRequest := by
  unfold State.afterQueues
  extract_lets s0
  have h0 : s0.demand = s.demand := by unfold s0; split <;> rfl
  rw [State.demandMark_eq]
  refine ⟨rfl, rfl, survivors_unbound c _, ?_⟩
  have hn : (({ s0 with timer := s0.timer.mark selfStart pulls (s.lapsing c) } : State).engineMark c cls).demand.nextRequest =
      s.demand.nextRequest := (State.engineMark_nextRequest _ c cls).trans (by rw [h0])
  show DemandQueue.nextRequest (State.demand (if cls = .runt then _ else _)) = _
  split
  · exact (State.abortItem_nextRequest _).trans hn
  · exact hn

theorem State.takeMark_clears (s : State) (c : Settings) (cls : MarkClass) (selfStart pulls : Bool) :
    s.frameCleared (s.takeMark c cls selfStart pulls) c := by
  have hd := s.afterQueues_demand c cls selfStart pulls
  rw [← s.takeMark_demand] at hd
  exact ⟨rfl, rfl, rfl, rfl, rfl, rfl, rfl, rfl, rfl, by rw [s.takeMark_eq]; rfl, by rw [s.takeMark_eq]; rfl, hd⟩

/-! ### Runt records and counts (R10) -/

/-- Between two states records have been offered, none of them RUNT, and the count of runt marks stands. -/
def State.offersNoRunt (s t : State) : Prop :=
  (∃ rs : List EventRecord, t.events = rs.foldl EventQueue.offer s.events ∧ ∀ x ∈ rs, x.kind ≠ .runt) ∧
  t.counters.runtMarks = s.counters.runtMarks

theorem State.offersNoRunt_of_eq {s t : State} (he : t.events = s.events) (hc : t.counters.runtMarks = s.counters.runtMarks) :
    s.offersNoRunt t := ⟨⟨[], he, fun _ hx => absurd hx List.not_mem_nil⟩, hc⟩

theorem State.offersNoRunt_trans {s t u : State} (h : s.offersNoRunt t) (h' : t.offersNoRunt u) : s.offersNoRunt u := by
  obtain ⟨⟨rs, he, hk⟩, hc⟩ := h
  obtain ⟨⟨rs', he', hk'⟩, hc'⟩ := h'
  exact ⟨⟨rs ++ rs', by rw [he', he, List.foldl_append], fun x hx => (List.mem_append.mp hx).elim (hk x) (hk' x)⟩,
    hc'.trans hc⟩

theorem State.offersNoRunt_single {s t : State} {r : EventRecord} (he : t.events = s.events.offer r) (hk : r.kind ≠ .runt)
    (hc : t.counters.runtMarks = s.counters.runtMarks) : s.offersNoRunt t :=
  ⟨⟨[r], he, fun x hx => by rw [List.mem_singleton.mp hx]; exact hk⟩, hc⟩

theorem State.abortItem_noRunt (s : State) : s.offersNoRunt s.abortItem := by
  unfold State.abortItem
  split
  · exact State.offersNoRunt_single rfl (by simp [exposureRecord]) rfl
  · exact State.offersNoRunt_of_eq rfl rfl

theorem State.retire_noRunt (s : State) (slot channel : Nat) : s.offersNoRunt (s.retire slot channel) := by
  unfold State.retire
  split
  · exact State.offersNoRunt_single rfl (by simp [exposureRecord]) rfl
  · exact State.offersNoRunt_of_eq rfl rfl

theorem State.engineMark_noRunt (s : State) (c : Settings) (cls : MarkClass) : s.offersNoRunt (s.engineMark c cls) := by
  unfold State.engineMark
  split
  · have h := s.abortEngine_frame c
    exact State.offersNoRunt_of_eq (h .events (by decide)) (congrArg Counters.runtMarks (h .counters (by decide)))
  · exact State.retire_noRunt _ _ _
  · exact State.offersNoRunt_of_eq rfl rfl

theorem State.ageQueue_noRunt (s : State) (c : Settings) : s.offersNoRunt (s.ageQueue c) := by
  refine ⟨⟨_, rfl, fun x hx => ?_⟩, rfl⟩
  obtain ⟨e, -, rfl⟩ := List.mem_map.mp hx
  exact nofun

theorem State.demandMark_noRunt (s : State) (c : Settings) (cls : MarkClass) : s.offersNoRunt (s.demandMark c cls) := by
  rw [State.demandMark_eq]
  split
  · exact State.offersNoRunt_trans s.abortItem_noRunt (State.ageQueue_noRunt _ c)
  · exact s.ageQueue_noRunt c

theorem State.membershipMark_noRunt (s : State) (cls : MarkClass) (self : Bool) : s.offersNoRunt (s.membershipMark cls self) := by
  unfold State.membershipMark
  dsimp only
  split
  · split
    · exact State.offersNoRunt_of_eq rfl rfl
    · split
      · exact State.offersNoRunt_of_eq rfl rfl
      · exact State.offersNoRunt_of_eq rfl rfl
  · exact State.offersNoRunt_single rfl (by simp) rfl
  · exact State.offersNoRunt_of_eq rfl rfl

/-- A mark makes no RUNT record but the one of a runt, which comes first (R10). -/
theorem State.takeMark_noRunt (s : State) (c : Settings) (cls : MarkClass) (selfStart pulls : Bool) :
    (if cls = .runt then s.noteRunt c else s).offersNoRunt (s.takeMark c cls selfStart pulls) := by
  let s0 := if cls = .runt then s.noteRunt c else s
  let s1 : State := { s0 with timer := s0.timer.mark selfStart pulls (s.lapsing c) }
  have h1 : s0.offersNoRunt s1 := State.offersNoRunt_of_eq rfl rfl
  have h2 := State.offersNoRunt_trans h1 (s1.engineMark_noRunt c cls)
  have h3 := State.offersNoRunt_trans h2 (State.demandMark_noRunt _ c cls)
  have h4 := State.offersNoRunt_trans h3 (State.membershipMark_noRunt _ cls selfStart)
  exact State.offersNoRunt_trans h4 (State.offersNoRunt_of_eq rfl rfl)

theorem State.takeMark_runtMarks {s : State} (c : Settings) {cls : MarkClass} (h : cls ≠ .runt) (selfStart pulls : Bool) :
    (s.takeMark c cls selfStart pulls).counters.runtMarks = s.counters.runtMarks := by
  have h' := (s.takeMark_noRunt c cls selfStart pulls).2
  rwa [if_neg h] at h'

/-- The slot in progress is the one whose start was emitted last (R10). -/
theorem Settings.slotInProgress_eq_some (c : Settings) (emitted k : Nat) :
    c.slotInProgress emitted = some k ↔ k < c.slots ∧ emitted = c.placeSlotStart k + 1 := by
  unfold Settings.slotInProgress Settings.placeSlotStart
  split
  · simp only [Option.some.injEq]; omega
  · simp only [reduceCtorEq, false_iff]; omega

/-- The RUNT record (R10). -/
def State.runtRecord (s : State) (c : Settings) : EventRecord :=
  { kind := .runt, frame := s.timer.frame, slot := c.slotInProgress s.timer.emitted }

theorem State.runtRecordIs_runtRecord (s : State) (c : Settings) : s.runtRecordIs c (s.runtRecord c) :=
  ⟨rfl, rfl, rfl, rfl, rfl, rfl, fun k => c.slotInProgress_eq_some s.timer.emitted k⟩

/-! ### The command of a mark -/

theorem exec_mark_of_fall {s : State} {c : Settings} (hc : s.cfg = some c) (hl : s.timer.frmLow = false)
    (hm : s.timer.mode.monitors = true) : exec .mark s = .next (s.takeMark c (s.markClass c) false false) := by
  simp only [exec, execMark, hl, hc, hm, Bool.false_eq_true, if_false, if_true]

theorem exec_mark_of_low {s : State} (h : s.timer.frmLow = true) : exec .mark s = .next s := if_pos h

theorem State.markClass_of_normalDue {s : State} {c : Settings} (h : s.normalDue c) : s.markClass c = .normal := by
  rcases h with h | ⟨h, hv⟩
  · simp only [State.markClass, h]
  · simp only [State.markClass, h, if_pos hv]

theorem State.markClass_of_searching {s : State} {c : Settings} (h : s.timer.mode = .searching) : s.markClass c = .aligning := by
  simp only [State.markClass, h]

theorem State.markClass_of_runtDue {s : State} {c : Settings} (h : s.runtDue c) : s.markClass c = .runt := by
  obtain ⟨hm, hv⟩ := h
  simp only [State.markClass, hm, if_neg (Nat.not_le.mpr hv)]

theorem State.markClass_ne_normal {s : State} {c : Settings} (h : ¬ s.normalDue c) (hm : s.timer.mode.monitors = true) :
    s.markClass c ≠ .normal := by
  simp only [State.normalDue, not_or, not_and] at h
  obtain ⟨hh, hr⟩ := h
  cases hmode : s.timer.mode with
  | stopped | faulted => rw [hmode] at hm; cases hm
  | searching => simp [State.markClass_of_searching hmode]
  | holding => exact absurd hmode hh
  | running =>
    rw [State.markClass_of_runtDue ⟨hmode, Nat.not_le.mp (hr hmode)⟩]
    decide

theorem State.normalDue_monitors {s : State} {c : Settings} (h : s.normalDue c ∨ s.timer.mode = .searching) :
    s.timer.mode.monitors = true := by
  rcases h with (h | ⟨h, -⟩) | h <;> rw [h] <;> rfl

theorem State.markClass_ne_runt {s : State} {c : Settings} (h : s.normalDue c ∨ s.timer.mode = .searching) :
    s.markClass c ≠ .runt := by
  rcases h with h | h
  · rw [State.markClass_of_normalDue h]; decide
  · rw [State.markClass_of_searching h]; decide

theorem exec_mark_of_runtDue {s : State} {c : Settings} (hc : s.cfg = some c) (hl : s.timer.frmLow = false)
    (h : s.runtDue c) : exec .mark s = .next (s.takeMark c .runt false false) := by
  have hm : s.timer.mode.monitors = true := by rw [h.1]; rfl
  rw [exec_mark_of_fall hc hl hm, State.markClass_of_runtDue h]

theorem exec_mark_of_normalDue {s : State} {c : Settings} (hc : s.cfg = some c) (hl : s.timer.frmLow = false)
    (h : s.normalDue c) : exec .mark s = .next (s.takeMark c .normal false false) := by
  rw [exec_mark_of_fall hc hl (State.normalDue_monitors (.inl h)), State.markClass_of_normalDue h]

/-! ### The heard map and the flags (R44) -/

theorem Membership.formHeardMap_heardMap (m : Membership) {k : Nat} (hk : k < 16) :
    m.formHeardMap.heardMap.getLsbD k = (m.peers.getD k PeerEntry.cleared).heard := by
  simp only [Membership.formHeardMap, heardMapOf]
  rw [bitmapOf_getLsbD _ _ hk]
  simp [hk]

theorem Membership.formHeardMap_peer (m : Membership) (k : Nat) : m.formHeardMap.peers.getD k PeerEntry.cleared =
    { m.peers.getD k PeerEntry.cleared with heard := false } := by
  simp only [Membership.formHeardMap, List.getD_eq_getElem?_getD, List.getElem?_map]
  cases m.peers[k]? <;> rfl

/-- Where nothing is heard a mark leaves the Membership Unit as it is (R44, R60). -/
theorem Membership.formHeardMap_of_cleared {m : Membership} (h : ∀ k, m.peers.getD k PeerEntry.cleared = PeerEntry.cleared)
    (hm : m.heardMap = 0) : m.formHeardMap = m := by
  have hnone : (List.range 16).filter (fun k => (m.peers.getD k PeerEntry.cleared).heard) = [] :=
    List.filter_eq_nil_iff.mpr fun k _ => by rw [h k]; decide
  have hmap : heardMapOf m.peers = m.heardMap := by
    rw [heardMapOf, hnone, hm]
    rfl
  have hpeers : m.peers.map (fun p => { p with heard := false }) = m.peers := by
    refine List.map_congr_left (g := id) (fun p hp => ?_) |>.trans (List.map_id _)
    obtain ⟨k, hk⟩ := List.mem_iff_getElem?.mp hp
    have := h k
    rw [List.getD_eq_getElem?_getD, hk] at this
    rw [show p = PeerEntry.cleared from this]
    rfl
  rw [Membership.formHeardMap, hmap, hpeers]

/-- A station that keeps its peer table keeps the heard map and the flags that the mark forms, whatever else it does. -/
theorem State.membershipMark_heard {s : State} (cls : MarkClass) (self : Bool) (h : s.station ≠ .leaving) :
    (s.membershipMark cls self).membership.heardMap = s.membership.formHeardMap.heardMap ∧
    (s.membershipMark cls self).membership.peers = s.membership.formHeardMap.peers := by
  unfold State.membershipMark
  dsimp only
  split
  · split
    · exact ⟨rfl, rfl⟩
    · split
      · exact ⟨rfl, rfl⟩
      · exact ⟨rfl, rfl⟩
  · exact absurd ‹_› h
  · exact ⟨rfl, rfl⟩

/-! ### A mark at a MEMBER -/

/-- The mark with its frame number, before the blocks react, after the record of a runt. -/
def State.marked (s : State) (c : Settings) (cls : MarkClass) (pulls : Bool) : State :=
  let s0 := if cls = .runt then s.noteRunt c else s
  { s0 with timer := s0.timer.mark false pulls (s.lapsing c) }

/-- A mark at a MEMBER, where the engine's reaction leaves `u`. -/
theorem State.takeMark_of_member {s u : State} {c : Settings} {cls : MarkClass} {pulls : Bool} (hm : s.station = .member)
    (h : ((s.marked c cls pulls).engineMark c cls).demandMark c cls = u) :
    (s.takeMark c cls false pulls).station = .member ∧ (s.takeMark c cls false pulls).demand = u.demand ∧
    (s.takeMark c cls false pulls).counters = u.counters ∧ (s.takeMark c cls false pulls).events = u.events ∧
    (s.takeMark c cls false pulls).engine = { u.engine with justEnded := false, gap := false } := by
  have hu : s.afterQueues c cls false pulls = u := h
  have hst : u.station = .member := by rw [State.station, ← hu, s.afterQueues_membership]; exact hm
  have hmm := State.membershipMark_of_other (s := u) cls false (by rw [hst]; decide) (by rw [hst]; decide)
  refine ⟨?_, hu ▸ s.takeMark_demand c cls false pulls, hu ▸ s.takeMark_counters c cls false pulls, ?_,
    hu ▸ s.takeMark_engine c cls false pulls⟩
  · rw [State.station, s.takeMark_membership, hu, hmm]
    exact hst
  · rw [s.takeMark_events, hu, hmm]

theorem State.engineMark_of_idle {s : State} (c : Settings) (cls : MarkClass) (h : s.engine.mode = .idle) :
    s.engineMark c cls = s := by
  simp only [State.engineMark, h]

theorem State.engineMark_of_normal {s : State} (c : Settings) {r : RunningPattern} (h : s.engine.mode = .running r) :
    s.engineMark c .normal = s.endExposure c r false := by
  simp only [State.engineMark, h]

theorem State.engineMark_of_runt {s : State} (c : Settings) {r : RunningPattern} (h : s.engine.mode = .running r) :
    s.engineMark c .runt = { s with engine := PatternEngine.rest c false } := by
  simp only [State.engineMark, State.abortEngine, h]

theorem State.marked_of_ne_runt {s : State} (c : Settings) {cls : MarkClass} (pulls : Bool) (h : cls ≠ .runt) :
    s.marked c cls pulls = { s with timer := s.timer.mark false pulls (s.lapsing c) } := by
  simp only [State.marked, if_neg h]

theorem State.marked_mode (s : State) (c : Settings) (cls : MarkClass) (pulls : Bool) :
    (s.marked c cls pulls).engine.mode = s.engine.mode := by
  unfold State.marked
  dsimp only
  split <;> rfl

/-! ### The phase events that a mark passes over (R12) -/

/-- What stands at a place of the table. -/
theorem Settings.schedule_cases {c : Settings} {p v : Nat} {i : Instr} (h : c.schedule[p]? = some (v, i)) :
    (∃ k, k < c.windows ∧ p = c.placeClaim k ∧ v = c.claimStart k ∧ i = .claimWindowStart k) ∨
    (p = c.placeClaimClose ∧ v = c.claimClose ∧ i = .claimPhaseClose) ∨
    (∃ k, k < c.windows ∧ p = c.placeDigest k ∧ v = c.digestStart k ∧ i = .digestWindowStart k) ∨
    (p = c.placeDigestClose ∧ v = c.digestClose ∧ i = .digestPhaseClose) ∨
    (∃ k, k < c.slots ∧ p = c.placeSlotStart k ∧ v = c.slotStartAt k ∧ i = .slotStart k) ∨
    (∃ k, k < c.slots ∧ p = c.placeSlotEnd k ∧ v = c.slotEndAt k ∧ i = .slotEnd k) ∨
    (p = c.placeExpiry ∧ v = c.frameLength ∧ i = .expiry) := by
  have hlt : p < c.placeExpiry + 1 := c.schedule_length ▸ (List.getElem?_eq_some_iff.mp h).1
  have hat {q : Nat} {x : Nat × Instr} (hq : p = q) (hx : c.schedule[q]? = some x) : v = x.1 ∧ i = x.2 := by
    rw [hq, hx] at h
    cases h
    exact ⟨rfl, rfl⟩
  simp only [Settings.placeExpiry] at hlt
  have hcases : p < c.windows ∨ p = c.placeClaimClose ∨ (∃ k, k < c.windows ∧ p = c.placeDigest k) ∨ p = c.placeDigestClose ∨
      (∃ k, k < c.slots ∧ p = c.placeSlotStart k) ∨ (∃ k, k < c.slots ∧ p = c.placeSlotEnd k) ∨ p = c.placeExpiry := by
    simp only [Settings.placeClaimClose, Settings.placeDigest, Settings.placeDigestClose, Settings.placeSlotStart,
      Settings.placeSlotEnd, Settings.placeExpiry]
    by_cases h1 : p ≤ c.windows
    · omega
    · by_cases h2 : p ≤ 2 * c.windows
      · exact .inr (.inr (.inl ⟨p - (c.windows + 1), by omega, by omega⟩))
      · by_cases h3 : p = 2 * c.windows + 2 + 2 * c.slots ∨ p = 2 * c.windows + 1
        · omega
        · rcases Nat.mod_two_eq_zero_or_one p with h4 | h4
          · exact .inr (.inr (.inr (.inr (.inl ⟨(p - (2 * c.windows + 2)) / 2, by omega, by omega⟩))))
          · exact .inr (.inr (.inr (.inr (.inr (.inl ⟨(p - (2 * c.windows + 3)) / 2, by omega, by omega⟩)))))
  rcases hcases with hp | hp | ⟨k, hk, hp⟩ | hp | ⟨k, hk, hp⟩ | ⟨k, hk, hp⟩ | hp
  · exact .inl ⟨p, hp, rfl, hat rfl (c.schedule_placeClaim hp)⟩
  · exact .inr (.inl ⟨hp, hat hp c.schedule_placeClaimClose⟩)
  · exact .inr (.inr (.inl ⟨k, hk, hp, hat hp (c.schedule_placeDigest hk)⟩))
  · exact .inr (.inr (.inr (.inl ⟨hp, hat hp c.schedule_placeDigestClose⟩)))
  · exact .inr (.inr (.inr (.inr (.inl ⟨k, hk, hp, hat hp (c.schedule_placeSlotStart hk)⟩))))
  · exact .inr (.inr (.inr (.inr (.inr (.inl ⟨k, hk, hp, hat hp (c.schedule_placeSlotEnd hk)⟩)))))
  · exact .inr (.inr (.inr (.inr (.inr (.inr ⟨hp, hat hp c.schedule_placeExpiry⟩)))))

/-- The command of a phase event is the event at its place of the table, with some reaction (R4). -/
theorem exec_of_scheduled {s : State} {c : Settings} (hc : s.cfg = some c) {p v : Nat} {i : Instr}
    (h : c.schedule[p]? = some (v, i)) : ∃ react, exec i s = .next (s.phase c p v react) := by
  rcases c.schedule_cases h with ⟨k, hk, rfl, rfl, rfl⟩ | ⟨rfl, rfl, rfl⟩ | ⟨k, hk, rfl, rfl, rfl⟩ | ⟨rfl, rfl, rfl⟩ |
    ⟨k, hk, rfl, rfl, rfl⟩ | ⟨k, hk, rfl, rfl, rfl⟩ | ⟨rfl, rfl, rfl⟩
  · exact ⟨_, by simp only [exec, execClaimWindowStart, hc, if_pos hk]; rfl⟩
  · exact ⟨_, by simp only [exec, execClaimPhaseClose, hc]; rfl⟩
  · exact ⟨_, by simp only [exec, execDigestWindowStart, hc, if_pos hk]; rfl⟩
  · exact ⟨_, by simp only [exec, execDigestPhaseClose, hc]; rfl⟩
  · exact ⟨_, by simp only [exec, execSlotStart, hc, if_pos hk]; rfl⟩
  · exact ⟨_, by simp only [exec, execSlotEnd, hc, if_pos hk]; rfl⟩
  · exact ⟨_, by simp only [exec, execExpiry, hc]; rfl⟩

theorem exec_of_lapsed {s : State} {c : Settings} (hc : s.cfg = some c) {p v : Nat} {i : Instr}
    (h : c.schedule[p]? = some (v, i)) (hp : p ∈ s.timer.lapsed) : exec i s = .next (s.passOver p) := by
  obtain ⟨react, he⟩ := exec_of_scheduled hc h
  rw [he, State.phase, if_pos (by simpa using hp)]

theorem exec_of_not_running {s : State} {c : Settings} (hc : s.cfg = some c) {p v : Nat} {i : Instr}
    (h : c.schedule[p]? = some (v, i)) (hl : s.timer.lapsed = []) (hm : s.timer.mode ≠ .running) : exec i s = .next s := by
  obtain ⟨react, he⟩ := exec_of_scheduled hc h
  rw [he, State.phase, if_neg (by simp [hl]), if_neg (by simp [State.emits, State.timing, hm])]

/-- The events at the frame timer value of a mark, and the expiry at a mark in the tail, are among those it passes over. -/
theorem State.mem_lapsing {s : State} {c : Settings} {p v : Nat} {i : Instr} (hm : s.timer.mode = .running)
    (h : c.schedule[p]? = some (v, i)) (he : s.timer.emitted ≤ p)
    (hv : s.timer.value = v ∨ (i = .expiry ∧ c.frameLength - c.tail ≤ s.timer.value)) : p ∈ s.lapsing c := by
  have ht : s.timing = true := by simp [State.timing, hm]
  have hexp (hi : i = .expiry) : p = c.placeExpiry := by
    subst hi
    have hcases := c.schedule_cases h
    simp only [reduceCtorEq, and_false, exists_false, false_or] at hcases
    exact hcases.1
  have hz : c.schedule.zipIdx[p]? = some ((v, i), p) := by simp [List.getElem?_zipIdx, h]
  rw [State.lapsing, if_pos ht]
  refine List.mem_map.mpr ⟨((v, i), p), List.mem_filter.mpr ⟨?_, ?_⟩, rfl⟩
  · exact List.mem_of_getElem? (i := p - s.timer.emitted) (by rw [List.getElem?_drop, Nat.add_sub_cancel' he]; exact hz)
  · refine decide_eq_true ?_
    rcases hv with hv | ⟨hi, ht⟩
    · exact .inl hv.symm
    · exact .inr ⟨hexp hi, ht⟩

end Sys2Proof.Machine
end

section
/-! The statements about marks (O12 to O16). -/

namespace Sys2Proof.Proofs

open Sys2Proof.Machine

/-- Settles O12: what a mark restarts, clears and forms, and the events at its instant. -/
theorem markBeginsFrame : Obligations.MarkBeginsFrame := by
  unfold Obligations.MarkBeginsFrame
  refine ⟨fun s c hc hl hm => .of_eq (exec_mark_of_fall hc hl hm) ?_, fun s c p v i hc hl hm hp he hv => ?_⟩
  · refine ⟨s.takeMark_restarts c _ _ _, s.takeMark_clears c _ _ _, fun hs => State.takeMark_frameNumber c _ _ hs,
      fun hs k hk => ?_, s.takeMark_frame c _ _ _⟩
    have hne : s.station ≠ .leaving := by rcases hs with hs | hs | hs <;> rw [hs] <;> decide
    have hmem := s.afterQueues_membership c (s.markClass c) false false
    obtain ⟨hmap, hpeers⟩ := State.membershipMark_heard (s := s.afterQueues c (s.markClass c) false false) (s.markClass c) false
      (by rw [State.station, hmem]; exact hne)
    rw [hmem, ← s.takeMark_membership] at hmap hpeers
    refine ⟨?_, ?_⟩
    · rw [hmap]; exact s.membership.formHeardMap_heardMap hk
    · rw [State.peer, hpeers]; exact s.membership.formHeardMap_peer k
  · have hlapsed := s.takeMark_lapsed c (s.markClass c) false false
    refine .of_eq (exec_mark_of_fall hc hl (by rw [hm]; rfl)) ⟨s.takeMark_restarts c _ _ _, ?_⟩
    refine .of_eq (exec_of_lapsed ((s.takeMark_frame c _ _ _ .config (by decide)).trans hc) hp ?_) rfl
    rw [hlapsed]
    exact State.mem_lapsing hm hp he hv

/-- Settles O13: the RUNT record comes first, and what the queue makes of the records. -/
theorem runtIsCountedAndRecorded : Obligations.RuntIsCountedAndRecorded := by
  unfold Obligations.RuntIsCountedAndRecorded
  refine fun s c hc hl => ⟨fun hr => .of_eq (exec_mark_of_runtDue hc hl hr) ?_,
    fun hn => .of_eq (exec_mark_of_fall hc hl (State.normalDue_monitors hn)) ?_⟩
  · obtain ⟨⟨rs, he, hk⟩, hcount⟩ := s.takeMark_noRunt c .runt false false
    rw [if_pos rfl] at he hcount
    have hall : (s.takeMark c .runt false false).events = (s.runtRecord c :: rs).foldl EventQueue.offer s.events := he
    refine ⟨hcount, s.runtRecord c, rs, s.runtRecordIs_runtRecord c, he, hk, fun hn => ?_, fun hn => ?_, fun hn => ?_,
      fun hn => ?_⟩
    · rw [hall, EventQueue.foldl_offer _ _ hn]
    · rw [hall, EventQueue.foldl_offer _ _ (by omega)]
      simp [hn]
    · rw [hall, EventQueue.foldl_offer _ _ (by omega)]
      have htake : (s.events.records ++ s.runtRecord c :: rs).take 32 = s.events.records ++ [s.runtRecord c] := by
        rw [List.take_append, List.take_of_length_le (by omega), hn]
        rfl
      have hover : decide (32 < s.events.records.length + (s.runtRecord c :: rs).length) = decide (rs ≠ []) := by
        rw [hn]
        cases rs with
        | nil => rfl
        | cons => simp; omega
      exact ⟨htake, congrArg (s.events.overflow || ·) hover, congrArg (s.events.discarded || ·) hover⟩
    · rw [hall, EventQueue.foldl_offer _ _ (by omega), List.take_of_length_le (by simp; omega)]
      simp [show ¬ 32 < s.events.records.length + (rs.length + 1) by omega]
  · have h := s.takeMark_noRunt c (s.markClass c) false false
    rw [if_neg (State.markClass_ne_runt hn)] at h
    exact ⟨h.2, h.1⟩

/-- Settles O14: the queue ages, after the report of an exposure that still runs. -/
theorem normalMarkAtMember : Obligations.NormalMarkAtMember := by
  unfold Obligations.NormalMarkAtMember
  refine ⟨fun s c hc hl hn hm hi => .of_eq (exec_mark_of_fall hc hl (State.normalDue_monitors hn)) ?_,
    fun s c r it hc hl hn hm hr hit => ?_⟩
  · have hne := State.markClass_ne_runt hn
    have hu : ((s.marked c (s.markClass c) false).engineMark c (s.markClass c)).demandMark c (s.markClass c) =
        ({ s with timer := s.timer.mark false false (s.lapsing c) } : State).ageQueue c := by
      rw [State.engineMark_of_idle c _ ((s.marked_mode c _ false).trans hi), State.demandMark_eq, if_neg hne,
        State.marked_of_ne_runt c false hne]
    obtain ⟨hst, hd, hcount, hev, heng⟩ := State.takeMark_of_member hm hu
    refine ⟨hst, by rw [hd]; rfl, hcount, hev, ?_, ?_⟩
    · rw [heng]; exact hi
    · rw [heng]; rfl
  · intro rest
    refine .of_eq (exec_mark_of_normalDue hc hl hn) ?_
    have hu : ((s.marked c .normal false).engineMark c .normal).demandMark c .normal =
        ((s.marked c .normal false).endExposure c r false).ageQueue c := by
      rw [State.engineMark_of_normal c ((s.marked_mode c _ false).trans hr), State.demandMark_eq, if_neg (by decide)]
    rw [State.endExposure_of_some c false (show (s.marked c .normal false).demand.itemAt r.slot r.channel = some it from hit)]
      at hu
    obtain ⟨-, hd, hcount, hev, heng⟩ := State.takeMark_of_member hm hu
    have hrest : (s.demand.drop it).entries = rest := s.demand.drop_entries it
    refine ⟨?_, ?_, ?_, ?_, ?_, ?_, ?_⟩
    · rw [heng]; rfl
    · rw [heng]; rfl
    · rw [State.exposing, heng]; rfl
    · rw [State.chsel, heng]; rfl
    · rw [hd, ← hrest]; rfl
    · rw [hcount, ← hrest]; rfl
    · rw [hev, ← hrest]; rfl

/-- Settles O15: the RUNT record, the record of the aborted exposure, and the aging. -/
theorem runtAbortsExposure : Obligations.RuntAbortsExposure := by
  unfold Obligations.RuntAbortsExposure
  refine ⟨fun s c r it hc hl hr hm hrun hit => ?_, fun s c hc hl hr hm hi hit => ?_⟩
  · intro rest
    refine .of_eq (exec_mark_of_runtDue hc hl hr) ?_
    have hu : ((s.marked c .runt false).engineMark c .runt).demandMark c .runt =
        ({ s.marked c .runt false with engine := PatternEngine.rest c false } : State).abortItem.ageQueue c := by
      rw [State.engineMark_of_runt c ((s.marked_mode c _ false).trans hrun), State.demandMark_eq, if_pos rfl]
    rw [State.abortItem_of_some (s := { s.marked c .runt false with engine := PatternEngine.rest c false }) hit] at hu
    obtain ⟨hst, hd, hcount, hev, heng⟩ := State.takeMark_of_member hm hu
    have hrest : (s.demand.drop it).entries = rest := s.demand.drop_entries it
    refine ⟨hst, ?_, ?_, ?_, ?_, ?_, ?_, s.runtRecord c, s.runtRecordIs_runtRecord c, ?_⟩
    · rw [heng]; rfl
    · rw [heng]; rfl
    · rw [State.exposing, heng]; rfl
    · rw [State.chsel, heng]; rfl
    · rw [hd, ← hrest]; rfl
    · rw [hcount, ← hrest]; rfl
    · rw [hev, ← hrest]; rfl
  · refine .of_eq (exec_mark_of_runtDue hc hl hr) ?_
    have hu : ((s.marked c .runt false).engineMark c .runt).demandMark c .runt = (s.marked c .runt false).ageQueue c := by
      rw [State.engineMark_of_idle c _ ((s.marked_mode c _ false).trans hi), State.demandMark_eq, if_pos rfl,
        State.abortItem_of_none (s.marked c .runt false) hit]
    obtain ⟨hst, hd, hcount, hev, heng⟩ := State.takeMark_of_member hm hu
    refine ⟨hst, ?_, ?_, ?_, ?_, hcount, s.runtRecord c, s.runtRecordIs_runtRecord c, hev⟩
    · rw [heng]; exact hi
    · rw [heng]; rfl
    · rw [hd]; rfl
    · rw [hd]; rfl

/-- Settles O16: the Membership Unit's reaction in each station state. -/
theorem markMovesTheStation : Obligations.MarkMovesTheStation := by
  unfold Obligations.MarkMovesTheStation
  have hafter (s : State) (c : Settings) (cls : MarkClass) :
      (s.afterQueues c cls false false).membership = s.membership ∧
      (s.afterQueues c cls false false).timer = s.timer.mark false false (s.lapsing c) ∧
      (s.afterQueues c cls false false).station = s.station :=
    ⟨s.afterQueues_membership c cls _ _, s.afterQueues_timer c cls _ _,
      congrArg Membership.station (s.afterQueues_membership c cls _ _)⟩
  refine ⟨fun s c hc hl hs hm => ⟨fun hn ho => .of_eq (exec_mark_of_normalDue hc hl hn) ?_,
      fun hn => .of_eq (exec_mark_of_fall hc hl hm) ?_⟩,
    fun s c hc hl hm hs => .of_eq (exec_mark_of_fall hc hl hm) ?_,
    fun s c hc hl hm hl' hv => .of_eq (exec_mark_of_fall hc hl hm) ?_⟩
  · obtain ⟨hmem, htim, hst⟩ := hafter s c .normal
    rw [s.takeMark_eq, State.membershipMark_of_end (hst.trans hs) (by rw [hmem]; exact ho)]
    refine ⟨rfl, rfl, rfl, fun f hf => ?_, fun hf => ?_⟩
    · simp only [State.endListening, hmem, Membership.formHeardMap, hf]
      rfl
    · simp only [State.endListening, hmem, Membership.formHeardMap, hf, htim]
      rfl
  · obtain ⟨hmem, htim, hst⟩ := hafter s c (s.markClass c)
    rw [s.takeMark_eq, State.membershipMark_of_observe (hst.trans hs) ?_]
    · exact ⟨(congrArg Membership.station hmem).trans hs, rfl, rfl, congrArg FrameTimer.frame htim⟩
    · rw [hmem]
      rintro ⟨hcls, ho⟩
      rcases hn with hn | hn
      · exact State.markClass_ne_normal hn hm hcls
      · rw [ho] at hn; cases hn
  · obtain ⟨hmem, htim, hst⟩ := hafter s c (s.markClass c)
    have hoff : ((s.afterQueues c (s.markClass c) false false).membershipMark (s.markClass c) false) = _ :=
      State.membershipMark_of_leaving _ _ (hst.trans hs)
    have hev : ∃ rs : List EventRecord, (s.afterQueues c (s.markClass c) false false).events =
        rs.foldl EventQueue.offer s.events := by
      have h0 : s.offersMore (if s.markClass c = .runt then s.noteRunt c else s) := by
        split
        · exact ⟨[_], rfl⟩
        · exact s.offersMore_refl
      exact State.offersMore_trans (State.offersMore_trans (State.offersMore_trans h0 (State.offersMore_of_eq rfl))
        (State.engineMark_offers (s.marked c (s.markClass c) false) c (s.markClass c))) (State.demandMark_offers _ c (s.markClass c))
    obtain ⟨rs, hrs⟩ := hev
    rw [s.takeMark_eq, hoff]
    refine ⟨rfl, fun k => getD_replicate_self 16 k _, rfl, rfl, rfl, rfl, rfl, rfl, rs, ?_⟩
    simp only [State.enterOffline_events, hrs, htim]
    rfl
  · obtain ⟨hmem, htim, hst⟩ := hafter s c (s.markClass c)
    have hother := State.membershipMark_of_other (s := s.afterQueues c (s.markClass c) false false) (s.markClass c) false
      (by rw [hst]; exact hl') (by rw [hst]; exact hv)
    have hm' : (s.takeMark c (s.markClass c) false false).membership = s.membership.formHeardMap := by
      rw [s.takeMark_membership, hother, hmem]
    refine ⟨(congrArg Membership.station hm').trans rfl, State.takeMark_frameNumber c _ _ hl', by rw [hm']; rfl, fun k => ?_, fun hk hmap => ?_⟩
    · rw [State.peer, hm']
      exact s.membership.formHeardMap_peer k
    · rw [hm']
      exact Membership.formHeardMap_of_cleared hk hmap

end Sys2Proof.Proofs
end

section
/-! Expiry, the end of a low period of FRM, self-start and bus fault (O17 to O20). -/

namespace Sys2Proof.Machine

/-! ### Expiry (R6, R7) -/

theorem exec_expiry_of_pulls {s : State} {c : Settings} (h : s.awaits c c.placeExpiry)
    (hp : s.station.pullsAtExpiry = true) :
    exec .expiry s = .next ((s.reach c c.placeExpiry c.frameLength).takeMark c .normal false true) := by
  simp only [exec, execExpiry, h.1, State.phase_of_awaits h]
  exact congrArg _ (if_pos hp)

theorem exec_expiry_of_holds {s : State} {c : Settings} (h : s.awaits c c.placeExpiry)
    (hp : s.station.pullsAtExpiry = false) :
    exec .expiry s = .next ((s.reach c c.placeExpiry c.frameLength).hold c) := by
  simp only [exec, execExpiry, h.1, State.phase_of_awaits h]
  exact congrArg _ (if_neg (Bool.eq_false_iff.mp hp))

/-- A mark moves LEAVING to OFFLINE and leaves every other state but LISTENING (R48, R63). -/
theorem State.takeMark_station {s : State} (c : Settings) (cls : MarkClass) (self pulls : Bool) (h : s.station ≠ .listening) :
    (s.takeMark c cls self pulls).station = if s.station = .leaving then .offline else s.station := by
  have hmem := s.afterQueues_membership c cls self pulls
  have hst : (s.afterQueues c cls self pulls).station = s.station := congrArg Membership.station hmem
  rw [State.station, s.takeMark_membership]
  by_cases hv : s.station = .leaving
  · rw [if_pos hv, State.membershipMark_of_leaving cls self (hst.trans hv)]
    rfl
  · rw [if_neg hv, State.membershipMark_of_other cls self (by rw [hst]; exact h) (by rw [hst]; exact hv)]
    exact hst

theorem State.frameCleared_congr {s u t : State} {c : Settings} (ha : u.agree = s.agree) (hd : u.demand = s.demand)
    (h : u.frameCleared t c) : s.frameCleared t c := by
  rw [State.frameCleared, ha, hd] at h
  exact h

/-! ### The end of a low period (R8, R14, R16) -/

theorem exec_frmPullEnd_of_pull {s : State} {c : Settings} (hc : s.cfg = some c) (h : s.timer.ownPull = true) :
    exec .frmPullEnd s = .next (s.advanceTo c 8).endPull := by
  simp only [exec, execFrmPullEnd, hc, if_pos h]
  rfl

theorem exec_frmRisingEdge_of_rise {s : State} (hl : s.timer.frmLow = true) (hp : s.timer.ownPull = false)
    (h : ∀ c, s.cfg = some c → s.selfStartDue c = false) : exec .frmRisingEdge s = .next s.riseFrm := by
  simp only [exec, execFrmRisingEdge, if_pos (And.intro hl hp)]
  split
  · next c hc => rw [h c hc]; rfl
  · rfl

theorem exec_frmRisingEdge_of_start {s : State} {c : Settings} (hc : s.cfg = some c) (hl : s.timer.frmLow = true)
    (hp : s.timer.ownPull = false) (h : s.selfStartDue c = true) :
    exec .frmRisingEdge s = .next (s.riseFrm.takeMark c .normal true true) := by
  refine (if_pos (And.intro hl hp)).trans ?_
  split
  · next c' hc' =>
    obtain rfl : c = c' := Option.some.inj (hc.symm.trans hc')
    exact if_pos h
  · next hc' => exact absurd (hc.symm.trans hc') nofun

theorem exec_frmRisingEdge_of_pull {s : State} (h : s.timer.ownPull = true) : exec .frmRisingEdge s = .next s :=
  if_neg (by simp [h])

/-! ### The self-start (R18, R19) -/

theorem exec_selfStart_of_high {s : State} {c : Settings} (hc : s.cfg = some c) (hs : s.station = .listening)
    (hm : s.timer.mode ≠ .stopped) (hl : s.timer.frmLow = false) :
    exec .selfStart s = .next (s.takeMark c .normal true true) := by
  simp only [exec, execSelfStart, hc, if_pos (And.intro hs hm), if_pos hl]
  rfl

theorem exec_selfStart_of_faulted {s : State} {c : Settings} (hc : s.cfg = some c) (hs : s.station = .listening)
    (hm : s.timer.mode = .faulted) (hl : s.timer.frmLow = true) :
    exec .selfStart s = .next (s.elapse c (2 * c.frameLength - s.timer.silence)) := by
  have hns : s.timer.mode ≠ .stopped := by rw [hm]; decide
  simp only [exec, execSelfStart, hc, if_pos (And.intro hs hns), if_neg (show ¬ s.timer.frmLow = false by simp [hl]), if_pos hm]

theorem exec_selfStart_of_low {s : State} (hm : s.timer.mode = .running) (hl : s.timer.frmLow = true) :
    exec .selfStart s = .next s := by
  simp only [exec, execSelfStart]
  split
  · split
    · rw [if_neg (by simp [hl]), if_neg (by simp [hm])]
    · rfl
  · rfl

/-- What a self-start makes of a LISTENING station. -/
theorem State.takeMark_of_start {s : State} (c : Settings) (h : s.station = .listening) :
    (s.takeMark c .normal true true).timer.frame = 0 ∧ (s.takeMark c .normal true true).station = .joining ∧
    (s.takeMark c .normal true true).membership.joiningSent = 0 ∧
    (s.takeMark c .normal true true).membership.joiningFrames = 0 := by
  have hst : (s.afterQueues c .normal true true).station = .listening := by
    rw [State.station, s.afterQueues_membership]; exact h
  rw [s.takeMark_eq, State.membershipMark_of_start _ hst]
  exact ⟨by simp [s.afterQueues_timer], rfl, rfl, rfl⟩

/-! ### The bus fault (R15) -/

theorem exec_busFault_of_low {s : State} {c : Settings} (hc : s.cfg = some c) (hm : s.timer.mode.monitors = true)
    (hl : s.timer.frmLow = true) (hp : s.timer.ownPull = false) :
    exec .busFault s = .next ((s.elapse c (65 - s.timer.markLow)).takeBusFault c) := by
  simp only [exec, execBusFault, hc, if_pos (And.intro hm (And.intro hl hp))]

/-- The exit from MEMBER, in terms of the queue after an abort (R113, R85). -/
theorem State.exitMember_eq {s : State} (h : s.station = .member) : s.exitMember = { s with
    membership := { s.membership with leavePending := false }
    agree := { s.agree with verdict := .none, ownDigest := none }
    demand := { s.abortItem.demand with entries := [], claimRecord := [], exposures := [] }
    events := (s.abortItem.demand.entries.map (cancelledRecord s.timer.frame)).foldl EventQueue.offer s.abortItem.events
    counters := s.abortItem.counters } := by
  rw [State.exitMember, if_pos h, State.cancelQueue, State.abortItem]
  cases s.demand.exposures.find? (·.running) <;> rfl

theorem State.enterListening_of_member {s : State} (h : s.station = .member) : s.enterListening = { s with
    membership := { s.membership.clearPeers with
      station := .listening, observation := .unaligned, listenRef := none, streak := 0, joiningSent := 0,
      joiningFrames := 0, leavePending := false }
    timer := { s.timer with frame := 0, silence := 0 }
    agree := { s.agree with verdict := .none, ownDigest := none }
    demand := { s.abortItem.demand with entries := [], claimRecord := [], exposures := [] }
    events := (s.abortItem.demand.entries.map (cancelledRecord s.timer.frame)).foldl EventQueue.offer s.abortItem.events
    counters := s.abortItem.counters } := by
  rw [State.enterListening, State.exitMember_eq h]
  rfl

theorem State.faultStation_of_joining {s : State} (h : s.station = .joining) : s.faultStation = s.enterListening := by
  simp only [State.faultStation, h]

theorem State.faultStation_of_member {s : State} (h : s.station = .member) : s.faultStation = s.enterListening := by
  simp only [State.faultStation, h]

theorem State.faultStation_of_listening {s : State} (h : s.station = .listening) :
    s.faultStation = { s with membership := { s.membership with observation := .unaligned } } := by
  simp only [State.faultStation, h]

/-- The forms that a bus fault gives the station. -/
theorem State.faultStation_cases (s : State) :
    (s.station = .joining ∧ s.faultStation = s.enterListening) ∨ (s.station = .member ∧ s.faultStation = s.enterListening) ∨
    (s.station = .leaving ∧ s.faultStation = s.enterOffline) ∨
    (s.station = .listening ∧
      s.faultStation = { s with membership := { s.membership with observation := .unaligned } }) ∨
    ((s.station = .loading ∨ s.station = .loadFailed ∨ s.station = .offline ∨ s.station = .isolated) ∧ s.faultStation = s) := by
  unfold State.faultStation
  cases s.station <;> simp

theorem State.faultStation_frmLow (s : State) : s.faultStation.timer.frmLow = s.timer.frmLow := by
  rcases s.faultStation_cases with ⟨h, e⟩ | ⟨h, e⟩ | ⟨h, e⟩ | ⟨h, e⟩ | ⟨h, e⟩ <;> rw [e]
  · rw [State.enterListening_of_ne (by rw [h]; decide)]
  · rw [State.enterListening_of_member h]
  · rfl

theorem State.abortItem_busFaults (s : State) : s.abortItem.counters.busFaults = s.counters.busFaults := by
  unfold State.abortItem
  split <;> rfl

theorem State.faultStation_busFaults (s : State) : s.faultStation.counters.busFaults = s.counters.busFaults := by
  rcases s.faultStation_cases with ⟨h, e⟩ | ⟨h, e⟩ | ⟨h, e⟩ | ⟨h, e⟩ | ⟨h, e⟩ <;> rw [e]
  · rw [State.enterListening_of_ne (by rw [h]; decide)]
  · rw [State.enterListening_of_member h]
    exact s.abortItem_busFaults
  · rfl

theorem State.abortEngine_not_running (s : State) (c : Settings) (r : RunningPattern) :
    (s.abortEngine c).engine.mode ≠ .running r := by
  unfold State.abortEngine
  split
  · exact nofun
  · next h => exact h r

/-- The state at a bus fault before the blocks react: counted and recorded (R15). -/
def State.faulted (s : State) (c : Settings) : State :=
  ((s.elapse c (65 - s.timer.markLow)).count .busFaults 1).offer { kind := .busFault, frame := s.timer.frame }

/-- What every bus fault ends: the frame, the transmission and the table (R15, R27, R68). -/
def State.stopFrame (s : State) (c : Settings) : State :=
  { s with
    timer := { s.timer with mode := .faulted, value := 0, markLow := 0, emitted := 0, lapsed := [] }
    bus := { s.bus with tx := .idle, window := none }
    alloc := Allocator.cleared c }

/-- A bus fault, as the station's reaction to it and what every bus fault ends. -/
theorem State.takeBusFault_eq (s : State) (c : Settings) : (s.elapse c (65 - s.timer.markLow)).takeBusFault c =
    ({ (s.faulted c).faultStation with engine := ((s.faulted c).faultStation.abortEngine c).engine } : State).stopFrame c := by
  have hrest (u : State) : u.abortEngine c = { u with engine := (u.abortEngine c).engine } := by
    unfold State.abortEngine
    split <;> rfl
  exact congrArg (fun u : State => u.stopFrame c) (hrest (s.faulted c).faultStation)

end Sys2Proof.Machine

namespace Sys2Proof.Proofs

open Sys2Proof.Machine

/-- Settles O17: the own mark of a station that pulls, and HOLDING in one that does not. -/
theorem expiry : Obligations.Expiry := by
  unfold Obligations.Expiry
  refine ⟨fun s c h hs => ?_, fun s c h hs => ?_⟩
  · have hp : s.station.pullsAtExpiry = true := by rcases hs with hs | hs | hs <;> rw [hs] <;> rfl
    have hframe := s.reach_frame c c.placeExpiry c.frameLength
    have hnumber : (s.reach c c.placeExpiry c.frameLength).timer.frame = s.timer.frame := rfl
    refine .of_eq (exec_expiry_of_pulls h hp) ?_
    generalize s.reach c c.placeExpiry c.frameLength = u at hframe hnumber
    have hst : u.station = s.station := congrArg Membership.station (hframe .membership (by decide))
    have hne : u.station ≠ .listening := by rw [hst]; rcases hs with hs | hs | hs <;> rw [hs] <;> decide
    have hr := u.takeMark_restarts c .normal false true
    have ⟨_, _, _, _, _, hlow, hpull, _⟩ := hr
    exact ⟨hr, hpull, (State.takeMark_frameNumber c _ _ hne).trans (by rw [hnumber]),
      State.frameCleared_congr (hframe .agree (by decide)) (hframe .demand (by decide)) (u.takeMark_clears c _ _ _),
      (State.takeMark_runtMarks c (by decide) _ _).trans (congrArg Counters.runtMarks (hframe .counters (by decide))),
      hst ▸ State.takeMark_station c _ _ _ hne, .of_eq (exec_mark_of_low hlow) rfl,
      State.onlyChanges_comp hframe (u.takeMark_frame c _ _ _) (by decide)⟩
  · have hp : s.station.pullsAtExpiry = false := by rcases hs with hs | hs | hs <;> rw [hs] <;> rfl
    refine .of_eq (exec_expiry_of_holds h hp) ⟨rfl, rfl, rfl, rfl, rfl, s.reach_engineKept c c.placeExpiry c.frameLength,
      State.onlyChanges_comp (s.reach_frame c c.placeExpiry c.frameLength) (State.setTimer_frame _ _) (by decide),
      fun hl i hi => ?_, fun hl => ?_⟩
    · obtain ⟨⟨v, j⟩, hj, rfl⟩ := List.mem_map.mp hi
      obtain ⟨p, hp⟩ := List.mem_iff_getElem?.mp hj
      have hlapsed : ((s.reach c c.placeExpiry c.frameLength).hold c).timer.lapsed = [] := by simp [State.hold, hl]
      exact .of_eq (exec_of_not_running (s := (s.reach c c.placeExpiry c.frameLength).hold c) h.1 hp hlapsed
        (show TimerMode.holding ≠ .running by decide)) rfl
    · have hn : ((s.reach c c.placeExpiry c.frameLength).hold c).normalDue c := .inl rfl
      exact .of_eq (exec_mark_of_normalDue h.1 hl hn) ⟨State.takeMark_restarts _ c _ _ _, State.takeMark_runtMarks c (by decide) _ _⟩

/-- Settles O18: the end of the own pull, and the rise. -/
theorem frmIsReleasedAndRises : Obligations.FrmIsReleasedAndRises := by
  unfold Obligations.FrmIsReleasedAndRises
  refine ⟨fun s c hc hp => .of_eq (exec_frmPullEnd_of_pull hc hp) ?_, fun s hl => ⟨fun hp hsil => ?_, fun hp => ?_⟩⟩
  · refine ⟨rfl, rfl, rfl, rfl, fun hm hv => ?_, s.advanceTo_engineKept c 8, s.advanceTo_endPull_frame c 8⟩
    simp only [State.endPull, State.advanceTo_timer, FrameTimer.elapse_value, hm, if_true, Settings.frameLength]
    omega
  · refine .of_eq (exec_frmRisingEdge_of_rise hl hp fun c hc => ?_) ⟨rfl, rfl, rfl, rfl, rfl, rfl, s.setTimer_frame _⟩
    simp [State.selfStartDue, hsil c hc]
  · exact .of_eq (exec_frmRisingEdge_of_pull hp) rfl

/-- Settles O19: the self-start at once, deferred, and at the rise; and none after a mark. -/
theorem selfStart : Obligations.SelfStart := by
  unfold Obligations.SelfStart
  intro s c hc hs hm started
  have hstart (u : State) (hu : u.station = .listening) (ha : u.agree = s.agree) (hd : u.demand = s.demand)
      (hk : u.counters = s.counters) : started (u.takeMark c .normal true true) := by
    obtain ⟨hf, hst, hj, hjf⟩ := State.takeMark_of_start c hu
    exact ⟨u.takeMark_restarts c _ _ _, hf, hst, hj, hjf, State.frameCleared_congr ha hd (u.takeMark_clears c .normal true true),
      (State.takeMark_runtMarks c (by decide) _ _).trans (congrArg Counters.runtMarks hk)⟩
  refine ⟨fun hl => .of_eq (exec_selfStart_of_high hc hs hm hl) (hstart s hs rfl rfl rfl),
    fun hl hf hsil => .of_eq (exec_selfStart_of_faulted hc hs hf hl) ⟨?_, hs, hf, rfl, s.elapse_frame c _⟩,
    fun hl hp hsil => .of_eq (exec_frmRisingEdge_of_start hc hl hp ?_) (hstart s.riseFrm hs rfl rfl rfl),
    fun hl hmon => .of_eq (exec_mark_of_fall hc hl hmon) ?_⟩
  · simp [hs, hf]
    omega
  · simp [State.selfStartDue, hs, hm, hsil]
  · have ⟨hrun, _, _, _, hsil, hlow, hpull, _⟩ := s.takeMark_restarts c (s.markClass c) false false
    exact ⟨hsil, hpull, .of_eq (exec_selfStart_of_low hrun hlow) rfl⟩

/-- Settles O20: the reaction of each station state, and what a bus fault ends in all of them. -/
theorem busFault : Obligations.BusFault := by
  unfold Obligations.BusFault
  intro s c hc hm hl hp
  refine .of_eq (exec_busFault_of_low hc hm hl hp) ?_
  have hframe := State.onlyChanges_comp (s.elapse_frame c (65 - s.timer.markLow)) (State.takeBusFault_frame _ c)
    (m := frameBlocks) (by decide)
  rw [s.takeBusFault_eq] at hframe ⊢
  have hst : (s.faulted c).station = s.station := rfl
  have hbus : (s.faulted c).faultStation.bus = (s.faulted c).bus := (s.faulted c).faultStation_frame .bus (by decide)
  have hmember (hs : (s.faulted c).station = .member) :=
    (State.faultStation_of_member hs).trans (State.enterListening_of_member hs)
  refine ⟨rfl, rfl, rfl, (State.faultStation_frmLow _).trans hl, State.faultStation_busFaults _, fun hidle => ?_,
    fun it hs hit => ?_, ?_, fun hs => ?_, fun hs => ?_, fun hs => ?_, rfl, ?_, ?_, rfl, State.abortEngine_not_running _ c, hframe⟩
  · show (s.faulted c).faultStation.counters = _ ∧ (s.faulted c).faultStation.events = _
    rcases (s.faulted c).faultStation_cases with ⟨h, e⟩ | ⟨h, e⟩ | ⟨h, e⟩ | ⟨h, e⟩ | ⟨h, e⟩
    · rw [e, State.enterListening_of_ne (by rw [h]; decide), ← hst, h]
      exact ⟨rfl, rfl⟩
    · have ha : (s.faulted c).abortItem = s.faulted c := State.abortItem_of_none _ (hidle h)
      rw [hmember h, ha, ← hst, h]
      exact ⟨rfl, rfl⟩
    · rw [e, ← hst, h]
      exact ⟨rfl, rfl⟩
    · rw [e, ← hst, h]
      exact ⟨rfl, rfl⟩
    · rw [e, ← hst]
      rcases h with h | h | h | h <;> rw [h] <;> exact ⟨rfl, rfl⟩
  · show (s.faulted c).faultStation.counters = _ ∧ (s.faulted c).faultStation.events = _
    rw [hmember hs, State.abortItem_of_some (s := s.faulted c) hit, ← s.demand.drop_entries it]
    exact ⟨rfl, rfl⟩
  · show (s.faulted c).faultStation.station = _
    rcases (s.faulted c).faultStation_cases with ⟨h, e⟩ | ⟨h, e⟩ | ⟨h, e⟩ | ⟨h, e⟩ | ⟨h, e⟩
    · rw [e, ← hst, h]; rfl
    · rw [e, ← hst, h]; rfl
    · rw [e, ← hst, h]; rfl
    · rw [e, ← hst, h]; exact h
    · rw [e, ← hst]
      rcases h with h | h | h | h <;> rw [h]
  · show (s.faulted c).faultStation.timer.frame = 0 ∧ (s.faulted c).faultStation.timer.silence = 0
    rcases hs with hs | hs
    · rw [State.faultStation_of_joining (s := s.faulted c) hs, State.enterListening_of_ne (by rw [hst, hs]; decide)]
      exact ⟨rfl, rfl⟩
    · rw [hmember hs]
      exact ⟨rfl, rfl⟩
  · show (s.faulted c).faultStation.demand.entries = [] ∧ (s.faulted c).faultStation.demand.claimRecord = [] ∧
      (s.faulted c).faultStation.demand.exposures = [] ∧ (s.faulted c).faultStation.agree.verdict = .none ∧
      (s.faulted c).faultStation.agree.ownDigest = none ∧ (s.faulted c).faultStation.link = false
    rw [hmember hs]
    exact ⟨rfl, rfl, rfl, rfl, rfl, rfl⟩
  · show (s.faulted c).faultStation.membership = _
    rw [State.faultStation_of_listening (s := s.faulted c) hs]
    rfl
  · show (s.faulted c).faultStation.bus.claimRecords = (s.faulted c).bus.claimRecords
    rw [hbus]
  · show (s.faulted c).faultStation.bus.digestRecords = (s.faulted c).bus.digestRecords
    rw [hbus]

end Sys2Proof.Proofs
end

section
/-! The Frame Timer's law (O58): as a law of the timer alone, under the passage of time, at a mark, and under the reactions that
change its frame number and its silence timer. -/

namespace Sys2Proof.Machine

/-! ### The law of the timer -/

/-- What R2, R14, R16 and R17 say of the Frame Timer's values in each mode, once it has a configuration. -/
structure FrameTimer.Lawful (t : FrameTimer) (c : Settings) (listening : Bool) : Prop where
  runs : t.mode ≠ .stopped
  value : t.value ≤ c.frameLength
  prescaler : t.prescaler < c.divider
  markLow : t.markLow ≤ 65
  silence : t.silence ≤ 2 * c.frameLength
  silent : listening = false → t.silence = 0
  searching : t.mode = .searching → t.value = 0
  holding : t.mode = .holding → t.value = c.frameLength
  faulted : t.mode = .faulted → t.value = 0 ∧ t.markLow = 0 ∧ t.frmLow = true ∧ t.ownPull = false
  pull : t.ownPull = true → t.frmLow = true
  lapsed : t.lapsed ≠ [] → t.mode = .running ∧ t.value = 0 ∧ t.prescaler = 0

theorem State.timed_iff_of_some {s : State} {c : Settings} (h : s.cfg = some c) :
    s.Timed ↔ c.inRange ∧ s.timer.Lawful c (s.station == .listening) := by
  simp only [State.Timed, h]
  refine and_congr_right fun _ => ⟨?_, ?_⟩
  · rintro ⟨h1, h2, h3, h4, h5, h6, h7, h8, h9, h10, h11⟩
    exact ⟨h1, h2, h3, h4, h5, fun hl => h6 (by simpa using hl), h7, h8, h9, h10, h11⟩
  · rintro ⟨h1, h2, h3, h4, h5, h6, h7, h8, h9, h10, h11⟩
    exact ⟨h1, h2, h3, h4, h5, fun hl => h6 (by simpa using hl), h7, h8, h9, h10, h11⟩

theorem State.timed_iff_of_none {s : State} (h : s.cfg = none) : s.Timed ↔
    s.timer.mode = .stopped ∧ s.timer.value = 0 ∧ s.timer.markLow = 0 ∧ s.timer.silence = 0 ∧ s.timer.ownPull = false ∧
    s.timer.lapsed = [] := by
  simp only [State.Timed, h]

theorem Settings.inRange_divider {c : Settings} (h : c.inRange) : 1 ≤ c.divider := by
  obtain ⟨-, -, -, -, -, -, -, ⟨hd, -⟩, -⟩ := h
  exact hd

theorem Settings.inRange_patternEdge {c : Settings} (h : c.inRange) {p : Nat} {e : Edge} (he : e ∈ c.patternEdges p) :
    e.fine ≤ 9 := by
  obtain ⟨-, -, -, -, -, -, -, -, -, -, -, -, hedges⟩ := h
  unfold Settings.patternEdges at he
  dsimp only at he
  split at he
  · cases he
  · exact (hedges e (List.mem_of_mem_drop (List.mem_of_mem_take he))).1

/-! ### Time and the mark -/

/-- Time keeps the law. -/
theorem FrameTimer.Lawful.elapse {t : FrameTimer} {c : Settings} {listening : Bool} (h : t.Lawful c listening)
    (hd : 1 ≤ c.divider) (n : Nat) : (t.elapse c.frameLength listening n).Lawful c listening := by
  obtain ⟨h1, h2, h3, h4, h5, h6, h7, h8, h9, h10, h11⟩ := h
  refine ⟨h1, ?_, ?_, ?_, ?_, fun hl => ?_, fun hm => ?_, fun hm => ?_, fun hm => ?_, h10, fun hl => ?_⟩
  · rw [elapse_value]; split <;> omega
  · rw [elapse_prescaler]; split <;> omega
  · rw [elapse_markLow]; split <;> omega
  · rw [elapse_silence]; split <;> omega
  · rw [elapse_silence, hl]; exact h6 hl
  · rw [elapse_mode] at hm; rw [elapse_value, hm]; exact h7 hm
  · rw [elapse_mode] at hm; rw [elapse_value, hm]; exact h8 hm
  · rw [elapse_mode] at hm
    rw [elapse_value, elapse_markLow, hm]
    simpa [TimerMode.monitors] using h9 hm
  · rw [elapse_lapsed] at hl
    obtain rfl : n = 0 := by by_contra hn; rw [if_neg hn] at hl; exact hl rfl
    obtain ⟨hm, hv, hp⟩ := h11 hl
    exact ⟨hm, by simp [hv], by simpa using hp⟩

/-- A place within the tu at which no event of an ended frame is left to pass over. -/
theorem FrameTimer.Lawful.setPrescaler {t : FrameTimer} {c : Settings} {listening : Bool} (h : t.Lawful c listening)
    {clocks : Nat} (hp : clocks < c.divider) : ({ t with prescaler := clocks, lapsed := [] } : FrameTimer).Lawful c listening := by
  obtain ⟨h1, h2, -, h4, h5, h6, h7, h8, h9, h10, -⟩ := h
  exact ⟨h1, h2, hp, h4, h5, h6, h7, h8, h9, h10, fun hl => absurd rfl hl⟩

/-- Whatever the timer was, a mark starts it lawfully. -/
theorem FrameTimer.mark_lawful (t : FrameTimer) {c : Settings} (hd : 1 ≤ c.divider) (listening selfStart pulls : Bool)
    (lapsed : List Nat) (frame : Byte) : ({ t.mark selfStart pulls lapsed with frame := frame } : FrameTimer).Lawful c listening :=
  ⟨nofun, Nat.zero_le _, hd, Nat.zero_le _, Nat.zero_le _, fun _ => rfl, nofun, nofun, nofun, fun _ => rfl, fun _ => ⟨rfl, rfl, rfl⟩⟩

theorem State.Timed.setTimer {s : State} {c : Settings} (h : s.Timed) (hc : s.cfg = some c) {t : FrameTimer}
    (ht : s.timer.Lawful c (s.station == .listening) → t.Lawful c (s.station == .listening)) :
    ({ s with timer := t } : State).Timed := by
  obtain ⟨hr, hl⟩ := (State.timed_iff_of_some hc).mp h
  exact (State.timed_iff_of_some (s := { s with timer := t }) hc).mpr ⟨hr, ht hl⟩

theorem State.Timed.inRange {s : State} {c : Settings} (h : s.Timed) (hc : s.cfg = some c) : c.inRange :=
  ((State.timed_iff_of_some hc).mp h).1

theorem State.Timed.lawful {s : State} {c : Settings} (h : s.Timed) (hc : s.cfg = some c) :
    s.timer.Lawful c (s.station == .listening) := ((State.timed_iff_of_some hc).mp h).2

/-- The law reads the configuration, the timer and whether the station is LISTENING. -/
theorem State.Timed.congr {s t : State} (h : s.Timed) (hc : t.cfg = s.cfg) (ht : t.timer = s.timer)
    (hs : t.station = .listening ↔ s.station = .listening) : t.Timed := by
  simpa only [State.Timed, hc, ht, ne_eq, hs] using h

theorem State.Timed.elapse {s : State} {c : Settings} (h : s.Timed) (hc : s.cfg = some c) (n : Nat) : (s.elapse c n).Timed :=
  (h.setTimer hc fun hl => hl.elapse (Settings.inRange_divider (h.inRange hc)) n).congr rfl rfl Iff.rfl

theorem State.Timed.advanceTo {s : State} {c : Settings} (h : s.Timed) (hc : s.cfg = some c) (v : Nat) :
    (s.advanceTo c v).Timed := h.elapse hc _

theorem State.Timed.reach {s : State} {c : Settings} (h : s.Timed) (hc : s.cfg = some c) (p v : Nat) : (s.reach c p v).Timed :=
  (h.advanceTo hc v).setTimer hc fun ⟨h1, h2, h3, h4, h5, h6, h7, h8, h9, h10, h11⟩ =>
    ⟨h1, h2, h3, h4, h5, h6, h7, h8, h9, h10, h11⟩

theorem State.Timed.advanceClock {s : State} {c : Settings} (h : s.Timed) (hc : s.cfg = some c) (v : Nat) {clocks : Nat}
    (hp : clocks < c.divider) : (s.advanceClock c v clocks).Timed := by
  have ha := h.advanceTo hc v
  unfold State.advanceClock
  dsimp only
  split
  · exact (ha.setTimer hc fun hl => hl.setPrescaler hp).congr rfl rfl Iff.rfl
  · exact ha

theorem State.Timed.clock {s : State} {c : Settings} (h : s.Timed) (hc : s.cfg = some c) : (s.clock c).Timed := by
  unfold State.clock
  split
  · exact h
  · split
    · next hp => exact (h.setTimer hc fun hl => hl.setPrescaler hp).congr rfl rfl Iff.rfl
    · exact h.elapse hc 1

theorem State.Timed.takeMark {s : State} {c : Settings} (hr : c.inRange) (hc : s.cfg = some c) (cls : MarkClass)
    (selfStart pulls : Bool) : (s.takeMark c cls selfStart pulls).Timed := by
  refine (State.timed_iff_of_some (((s.takeMark_frame c cls selfStart pulls) .config (by decide)).trans hc)).mpr ⟨hr, ?_⟩
  rw [s.takeMark_timer]
  exact s.timer.mark_lawful (Settings.inRange_divider hr) _ _ _ _ _

/-! ### Frame number and silence timer -/

/-- Of the timer only the frame number and the silence timer may differ; and the silence timer is restarted, or stands while the
station stays in LISTENING or out of it. -/
def State.keepsTime (s t : State) : Prop :=
  ∃ f n, t.timer = { s.timer with frame := f, silence := n } ∧
    (n = 0 ∨ (n = s.timer.silence ∧ (t.station = .listening ↔ s.station = .listening)))

theorem State.keepsTime_of_eq {s t : State} (ht : t.timer = s.timer) (hs : t.station = .listening ↔ s.station = .listening) :
    s.keepsTime t := ⟨_, _, ht, .inr ⟨rfl, hs⟩⟩

theorem State.keepsTime_refl (s : State) : s.keepsTime s := State.keepsTime_of_eq rfl Iff.rfl

theorem State.keepsTime_trans {s t u : State} (h : s.keepsTime t) (h' : t.keepsTime u) : s.keepsTime u := by
  obtain ⟨f, n, ht, hn⟩ := h
  obtain ⟨f', n', hu, hn'⟩ := h'
  refine ⟨f', n', by rw [hu, ht], ?_⟩
  rcases hn' with h0 | ⟨h', hs'⟩
  · exact .inl h0
  · rw [ht] at h'
    exact hn.imp (fun h0 => h'.trans h0) fun ⟨h, hs⟩ => ⟨h'.trans h, hs'.trans hs⟩

/-- Such a change keeps the law, before load completion as after it. -/
theorem State.Timed.of_keepsTime {s t : State} (h : s.Timed) (hc : t.cfg = s.cfg) (hk : s.keepsTime t) : t.Timed := by
  obtain ⟨f, n, ht, hn⟩ := hk
  rcases Option.eq_none_or_eq_some s.cfg with hs | ⟨c, hs⟩
  · obtain ⟨h1, h2, h3, h4, h5, h6⟩ := (State.timed_iff_of_none hs).mp h
    refine (State.timed_iff_of_none (hc.trans hs)).mpr ?_
    rw [ht]
    exact ⟨h1, h2, h3, hn.elim id fun ⟨h, _⟩ => h.trans h4, h5, h6⟩
  · obtain ⟨hr, h1, h2, h3, h4, h5, h6, h7, h8, h9, h10, h11⟩ := (State.timed_iff_of_some hs).mp h
    refine (State.timed_iff_of_some (hc.trans hs)).mpr ⟨hr, ?_⟩
    rw [ht]
    refine ⟨h1, h2, h3, h4, ?_, fun hl => ?_, h7, h8, h9, h10, h11⟩
    · rcases hn with rfl | ⟨rfl, -⟩
      · exact Nat.zero_le _
      · exact h5
    · rcases hn with rfl | ⟨rfl, hst⟩
      · rfl
      · exact h6 (by simpa [hst] using hl)

theorem State.keepsTime_of_frame {s t : State} {l : List Block} (h : s.onlyChanges t l)
    (hl : Block.timer ∉ l ∧ Block.membership ∉ l) : s.keepsTime t :=
  State.keepsTime_of_eq (h .timer hl.1) (by rw [State.station, h .membership hl.2]; rfl)

theorem State.exitMember_offer (s : State) (r : EventRecord) :
    (s.offer r).exitMember.demand = s.exitMember.demand ∧ (s.offer r).exitMember.agree = s.exitMember.agree ∧
    (s.offer r).exitMember.membership = s.exitMember.membership := by
  have habort : (s.offer r).abortItem.demand = s.abortItem.demand := by
    unfold State.abortItem
    rw [State.offer_demand]
    split <;> rfl
  by_cases hm : s.station = .member
  · rw [State.exitMember_eq hm, State.exitMember_eq (s := s.offer r) hm]
    exact ⟨by simp only [habort], rfl, rfl⟩
  · rw [s.exitMember_of_ne hm, (s.offer r).exitMember_of_ne hm]
    exact ⟨rfl, rfl, rfl⟩

/-- What entry to ISOLATED leaves in the blocks it changes, in either order of the records (R41, R156). -/
theorem State.enterIsolated_fields (s : State) (why : IsolationReason) :
    (s.enterIsolated why).timer = { s.timer with silence := 0 } ∧
    (s.enterIsolated why).membership = s.membership.withdraw .isolated (some why) ∧
    (s.enterIsolated why).demand = s.exitMember.demand ∧ (s.enterIsolated why).agree = s.exitMember.agree := by
  obtain ⟨hd, ha, hm⟩ := s.exitMember_offer { kind := .isolated, frame := s.timer.frame, channel := some why.code }
  have ht := (s.offer { kind := .isolated, frame := s.timer.frame, channel := some why.code }).exitMember_frame .timer (by decide)
  have hw : s.exitMember.membership.withdraw .isolated (some why) = s.membership.withdraw .isolated (some why) := by
    by_cases hs : s.station = .member
    · rw [State.exitMember_eq hs]; rfl
    · rw [s.exitMember_of_ne hs]
  unfold State.enterIsolated
  dsimp only
  split
  · split
    · exact ⟨congrArg (fun u : FrameTimer => { u with silence := 0 }) ht, hm ▸ hw, hd, ha⟩
    · exact ⟨congrArg (fun u : FrameTimer => { u with silence := 0 }) (s.exitMember_frame .timer (by decide)), hw, rfl, rfl⟩
  · next hs => exact ⟨rfl, rfl, by rw [s.exitMember_of_ne hs]; rfl, by rw [s.exitMember_of_ne hs]; rfl⟩

theorem State.keepsTime_exitMember (s : State) : s.keepsTime s.exitMember := by
  by_cases hm : s.station = .member
  · rw [State.exitMember_eq hm]
    exact State.keepsTime_of_eq rfl Iff.rfl
  · rw [s.exitMember_of_ne hm]
    exact s.keepsTime_refl

theorem State.keepsTime_enterListening (s : State) : s.keepsTime s.enterListening := by
  refine State.keepsTime_trans s.keepsTime_exitMember ?_
  exact ⟨0, 0, rfl, .inl rfl⟩

theorem State.keepsTime_enterOffline (s : State) : s.keepsTime s.enterOffline := ⟨s.timer.frame, 0, rfl, .inl rfl⟩

theorem State.keepsTime_enterIsolated (s : State) (why : IsolationReason) : s.keepsTime (s.enterIsolated why) := by
  obtain ⟨ht, -⟩ := s.enterIsolated_fields why
  exact ⟨s.timer.frame, 0, ht, .inl rfl⟩

theorem State.keepsTime_enterLeaving (s : State) (h : s.station = .member) : s.keepsTime s.enterLeaving := by
  have he : s.exitMember.timer = s.timer := s.exitMember_frame .timer (by decide)
  exact State.keepsTime_of_eq he (by rw [h]; exact ⟨nofun, nofun⟩)

theorem State.keepsTime_setMembership (s : State) (m : Membership) (h : m.station = s.membership.station) :
    s.keepsTime (s.setMembership m) := State.keepsTime_of_eq rfl (by rw [State.station, State.station, ← h]; rfl)

theorem State.keepsTime_applyReference (s : State) : s.keepsTime s.applyReference.1 := by
  rcases s.applyReference_cases with h | ⟨f, h⟩ | ⟨f, r, h⟩ <;> rw [h]
  · exact s.keepsTime_refl
  · exact s.keepsTime_setMembership _ rfl
  · exact ⟨f, s.timer.silence, rfl, .inr ⟨rfl, Iff.rfl⟩⟩

theorem State.keepsTime_checkDuplicate (s : State) : s.keepsTime s.checkDuplicate := by
  rcases s.checkDuplicate_cases with ⟨-, h⟩ | ⟨n, -, ⟨-, h⟩ | ⟨-, h⟩⟩ <;> rw [h]
  · exact s.keepsTime_refl
  · exact s.keepsTime_setMembership _ rfl
  · exact State.keepsTime_trans (s.keepsTime_setMembership { s.membership with streak := n } rfl)
      (State.keepsTime_enterIsolated _ _)

theorem State.keepsTime_checkConfig (s : State) : s.keepsTime s.checkConfig := by
  rcases s.checkConfig_cases with h | ⟨-, n, h | h⟩ <;> rw [h]
  · exact s.keepsTime_refl
  · exact s.keepsTime_setMembership _ rfl
  · exact State.keepsTime_trans (s.keepsTime_setMembership { s.membership with foreignOnly := n } rfl)
      (State.keepsTime_enterIsolated _ _)

theorem State.keepsTime_checkJoining (s : State) : s.keepsTime s.checkJoining := by
  have hset (n : Nat) := s.keepsTime_setMembership { s.membership with joiningSent := n } rfl
  rcases s.checkJoining_cases with h | ⟨hj, n, h | ⟨r, h⟩ | ⟨m, h⟩⟩ <;> rw [h]
  · exact s.keepsTime_refl
  · exact State.keepsTime_of_eq rfl (by rw [hj]; exact ⟨nofun, nofun⟩)
  · exact State.keepsTime_trans (State.keepsTime_trans (hset n) (State.keepsTime_of_eq rfl Iff.rfl))
      (State.keepsTime_enterListening _)
  · exact s.keepsTime_setMembership _ rfl

theorem State.keepsTime_closeClaims (s : State) (c : Settings) : s.keepsTime (s.closeClaims c) := by
  have hclose : s.keepsTime s.membershipClose.1 := by
    unfold State.membershipClose
    split
    · exact State.keepsTime_trans (State.keepsTime_of_eq rfl Iff.rfl) (State.keepsTime_trans s.updatePeers.keepsTime_applyReference
        (State.keepsTime_trans (State.keepsTime_checkDuplicate _)
          (State.keepsTime_trans (State.keepsTime_checkConfig _) (State.keepsTime_checkJoining _))))
    · exact s.keepsTime_refl
  exact State.keepsTime_trans hclose (State.keepsTime_of_eq rfl Iff.rfl)

theorem State.keepsTime_openOwnClaim (s : State) (c : Settings) : s.keepsTime (s.openOwnClaim c) := by
  have hlead (u : State) (kind : WindowKind) : u.keepsTime (u.startLeadIn kind) := State.keepsTime_of_eq rfl Iff.rfl
  have hreact (u : State) : u.keepsTime (u.ownWindowReaction c) := by
    unfold State.ownWindowReaction
    split
    · split
      · exact u.keepsTime_enterLeaving ‹_›
      · exact State.keepsTime_of_eq rfl Iff.rfl
    · exact State.keepsTime_of_eq rfl Iff.rfl
  have hopen : s.keepsTime ((s.openWindow .claim s.me).ownWindowReaction c) :=
    State.keepsTime_trans (State.keepsTime_of_eq rfl Iff.rfl) (hreact _)
  unfold State.openOwnClaim
  dsimp only
  split
  · exact State.keepsTime_trans hopen (hlead _ _)
  · exact hopen

theorem State.keepsTime_faultStation (s : State) : s.keepsTime s.faultStation := by
  rcases s.faultStation_cases with ⟨h, e⟩ | ⟨h, e⟩ | ⟨h, e⟩ | ⟨h, e⟩ | ⟨h, e⟩ <;> rw [e]
  · exact s.keepsTime_enterListening
  · exact s.keepsTime_enterListening
  · exact s.keepsTime_enterOffline
  · exact State.keepsTime_of_eq rfl Iff.rfl
  · exact s.keepsTime_refl

theorem State.keepsTime_handRecord (s : State) (kind : WindowKind) (k : Nat) (r : WindowRecord) :
    s.keepsTime (s.handRecord kind k r) := by
  unfold State.handRecord
  split
  · split
    · exact State.keepsTime_of_eq rfl Iff.rfl
    · exact s.keepsTime_refl
  · exact State.keepsTime_of_eq rfl Iff.rfl
  · exact s.keepsTime_refl

theorem State.keepsTime_endTransaction (s : State) : s.keepsTime s.endTransaction := by
  have hcmd (c : PortCommand) : s.keepsTime (s.takeCommand c).1 := by
    cases c with
    | clearCounters => exact State.keepsTime_of_eq rfl Iff.rfl
    | leave =>
      simp only [State.takeCommand, State.takeLeave]
      split
      · exact State.keepsTime_of_eq rfl Iff.rfl
      · exact s.keepsTime_enterOffline
      · exact s.keepsTime_enterOffline
      · exact s.keepsTime_refl
    | rejoin =>
      simp only [State.takeCommand, State.takeRejoin]
      split
      · exact s.keepsTime_enterListening
      · split
        · exact State.keepsTime_of_eq rfl Iff.rfl
        · exact s.keepsTime_refl
      · exact s.keepsTime_refl
  have hact : s.keepsTime s.endAction := by
    unfold State.endAction
    split
    · split
      · split
        · exact State.keepsTime_of_eq rfl Iff.rfl
        · exact s.keepsTime_refl
      · split
        · exact State.keepsTime_of_eq rfl Iff.rfl
        · exact s.keepsTime_refl
      · exact State.keepsTime_trans (hcmd _) (State.keepsTime_of_eq rfl Iff.rfl)
      · exact s.keepsTime_refl
    · exact s.keepsTime_refl
  exact State.keepsTime_trans hact (State.keepsTime_of_eq rfl Iff.rfl)

/-! ### Load state and configuration -/

/-- Before its outcome a load leaves the station LOADING without a configuration (R42, R144). -/
theorem State.Loaded.of_open {s : State} (h : s.Loaded) (ho : s.loader.state.open = true) :
    s.cfg = none ∧ s.station = .loading := by
  obtain ⟨hc, -, hl, -⟩ := h
  refine ⟨Option.not_isSome_iff_eq_none.mp fun hs => ?_, hl.mpr ho⟩
  rw [hc.mp hs] at ho
  cases ho

theorem State.Loaded.of_loadFailure {s : State} (h : s.Loaded) {why : LoadReason} (hf : s.loadFailure = some why) :
    s.loader.state.open = true := by
  obtain ⟨-, -, -, -, -, hfail, -⟩ := h
  unfold State.loadFailure at hf
  split at hf
  · next he =>
    rcases (hfail (by rw [he]; rfl)).1 with e | e <;> rw [e] <;> rfl
  · split at hf
    · next hs => rw [hs]; rfl
    · cases hf

theorem State.Loaded.of_loadSucceeds {s : State} (h : s.Loaded) (hs : s.loadSucceeds = true) :
    s.cfg = none ∧ s.station = .loading ∧ imageAccepted s.loader.granules s.sid := by
  obtain ⟨hst, -, hi⟩ := s.loadSucceeds_iff.mp hs
  obtain ⟨hc, hl⟩ := h.of_open (by rw [hst]; rfl)
  exact ⟨hc, hl, imageAccepted_of_checkingFailure hi⟩

/-! ### Every effect keeps the timer's law -/

theorem State.Timed.reset (s : State) : s.assertReset.Timed :=
  (State.timed_iff_of_none (s := s.assertReset) rfl).mpr ⟨rfl, rfl, rfl, rfl, rfl, rfl⟩

theorem State.Timed.completeLoad {s : State} (hl : s.Loaded) (h : s.Timed) (hs : s.loadSucceeds = true) (a b : Bool) :
    (s.completeLoad a b).Timed := by
  obtain ⟨hc, hst, hp, -, -, hq⟩ := hl.of_loadSucceeds hs
  obtain ⟨-, -, -, -, hpull, -⟩ := (State.timed_iff_of_none hc).mp h
  have hr := settingsOf_inRange hp hq
  rw [State.completeLoad_of_loading hst]
  refine (State.timed_iff_of_some rfl).mpr ⟨hr, ⟨nofun, Nat.zero_le _, Settings.inRange_divider hr, Nat.zero_le _,
    Nat.zero_le _, fun _ => rfl, fun _ => rfl, nofun, nofun, fun hp => ?_, fun h => absurd rfl h⟩⟩
  exact absurd hp (by simp [hpull])

theorem State.Timed.fall {s : State} (h : s.Timed) : ({ s with timer := { s.timer with frmLow := true } } : State).Timed := by
  rcases Option.eq_none_or_eq_some s.cfg with hc | ⟨c, hc⟩
  · exact (State.timed_iff_of_none (s := { s with timer := { s.timer with frmLow := true } }) hc).mpr
      ((State.timed_iff_of_none hc).mp h)
  · refine h.setTimer hc fun ⟨h1, h2, h3, h4, h5, h6, h7, h8, h9, h10, h11⟩ => ?_
    exact ⟨h1, h2, h3, h4, h5, h6, h7, h8, fun hm => ⟨(h9 hm).1, (h9 hm).2.1, rfl, (h9 hm).2.2.2⟩, fun _ => rfl, h11⟩

theorem State.Timed.riseFrm {s : State} (h : s.Timed) (hp : s.timer.ownPull = false) : s.riseFrm.Timed := by
  rcases Option.eq_none_or_eq_some s.cfg with hc | ⟨c, hc⟩
  · obtain ⟨h1, h2, h3, h4, h5, h6⟩ := (State.timed_iff_of_none hc).mp h
    exact (State.timed_iff_of_none (s := s.riseFrm) hc).mpr ⟨by simp [State.riseFrm, h1], h2, rfl, h4, h5, rfl⟩
  · refine h.setTimer hc fun ⟨h1, h2, h3, h4, h5, h6, h7, h8, h9, h10, h11⟩ => ?_
    refine ⟨?_, h2, h3, Nat.zero_le _, h5, h6, fun hm => ?_, fun hm => ?_, fun hm => ?_, fun h => ?_, fun h => absurd rfl h⟩
    · rw [FrameTimer.rise_mode]; split
      · exact nofun
      · exact h1
    · rw [FrameTimer.rise_mode] at hm
      split at hm
      · next hf => exact (h9 hf).1
      · exact h7 hm
    · rw [FrameTimer.rise_mode] at hm
      split at hm
      · cases hm
      · exact h8 hm
    · rw [FrameTimer.rise_mode] at hm
      split at hm
      · cases hm
      · exact absurd hm ‹_›
    · exact absurd h (by simp [FrameTimer.rise, hp])

theorem State.Timed.hold {s : State} {c : Settings} (h : s.Timed) (ha : s.awaits c c.placeExpiry) :
    ((s.reach c c.placeExpiry c.frameLength).hold c).Timed := by
  obtain ⟨hc, hm, -, -⟩ := ha
  have hv := (h.lawful hc).value
  have hlen : 40 ≤ c.frameLength := by unfold Settings.frameLength; omega
  have hvalue : (s.reach c c.placeExpiry c.frameLength).timer.value = c.frameLength := s.reach_value c _ _ hm hv (Nat.le_refl _)
  refine (h.reach hc c.placeExpiry c.frameLength).setTimer hc fun ⟨_, _, h3, h4, h5, h6, _, _, _, h10, h11⟩ => ?_
  refine ⟨nofun, Nat.le_refl _, h3, h4, h5, h6, nofun, fun _ => rfl, nofun, h10, fun hl => ?_⟩
  obtain ⟨-, h0, -⟩ := h11 hl
  omega

theorem State.Timed.endPull {s : State} {c : Settings} (h : s.Timed) (hc : s.cfg = some c) : s.endPull.Timed :=
  h.setTimer hc fun ⟨h1, h2, h3, h4, h5, h6, h7, h8, h9, _, h11⟩ =>
    ⟨h1, h2, h3, h4, h5, h6, h7, h8, fun hm => ⟨(h9 hm).1, (h9 hm).2.1, (h9 hm).2.2.1, rfl⟩, nofun, h11⟩

theorem State.Timed.passOver {s : State} {c : Settings} (h : s.Timed) (hc : s.cfg = some c) (p : Nat) : (s.passOver p).Timed :=
  h.setTimer hc fun ⟨h1, h2, h3, h4, h5, h6, h7, h8, h9, h10, h11⟩ =>
    ⟨h1, h2, h3, h4, h5, h6, h7, h8, h9, h10, fun hl => h11 fun h0 => hl (by simp [h0])⟩

theorem State.Timed.busFault {s : State} {c : Settings} (h : s.Timed) (hc : s.cfg = some c) (hlow : s.timer.frmLow = true)
    (hp : s.timer.ownPull = false) : ((s.elapse c (65 - s.timer.markLow)).takeBusFault c).Timed := by
  have hu : (s.faulted c).Timed := (h.elapse hc (65 - s.timer.markLow)).congr rfl rfl Iff.rfl
  have hcfg : (s.faulted c).faultStation.cfg = some c := ((s.faulted c).faultStation_frame .config (by decide)).trans hc
  have hv : (s.faulted c).faultStation.Timed := hu.of_keepsTime (hcfg.trans hc.symm) (State.keepsTime_faultStation _)
  obtain ⟨f, n, ht, -⟩ := (s.faulted c).keepsTime_faultStation
  have hlow' : (s.faulted c).faultStation.timer.frmLow = true := by rw [ht]; exact hlow
  have hp' : (s.faulted c).faultStation.timer.ownPull = false := by rw [ht]; exact hp
  rw [State.takeBusFault_eq]
  refine State.Timed.congr (hv.setTimer hcfg fun ⟨_, _, h3, _, h5, h6, _, _, _, h10, _⟩ => ?_) rfl rfl Iff.rfl
  exact ⟨nofun, Nat.zero_le _, h3, Nat.zero_le _, h5, h6, nofun, nofun, fun _ => ⟨rfl, rfl, hlow', hp'⟩, h10,
    fun h => absurd rfl h⟩

theorem State.Timed.toSample {s : State} {c : Settings} (h : s.Timed) (hc : s.cfg = some c) (kind : WindowKind) (i : Nat) :
    (s.toSample c kind i).Timed :=
  h.advanceClock hc _ (Nat.mod_lt _ (Settings.inRange_divider (h.inRange hc)))

theorem State.Timed.edgeTime {s : State} {c : Settings} (h : s.Timed) (hc : s.cfg = some c) (r : RunningPattern) (offset : Nat)
    {fine : Nat} (hf : fine ≤ 9) : (s.edgeTime c r offset fine).Timed := by
  refine h.advanceClock hc _ (Nat.div_lt_of_lt_mul ?_)
  have hd := Settings.inRange_divider (h.inRange hc)
  calc fine * c.divider ≤ 9 * c.divider := Nat.mul_le_mul_right _ hf
    _ < 10 * c.divider := by omega

/-- A change outside configuration, timer and station keeps the law. -/
theorem State.Timed.of_frame {s t : State} {l : List Block} (h : s.Timed) (hf : s.onlyChanges t l)
    (hl : Block.config ∉ l ∧ Block.timer ∉ l ∧ Block.membership ∉ l) : t.Timed :=
  h.of_keepsTime (hf .config hl.1) (State.keepsTime_of_frame hf hl.2)

theorem Effect.timed {s t : State} (he : Effect s t) (hl : s.Loaded) (h : s.Timed) : t.Timed := by
  cases he with
  | stay | beginLoad | granule | port => exact h
  | reset => exact .reset s
  | load a b hs => exact .completeLoad hl h hs a b
  | failLoad why hf =>
    obtain ⟨hc, -⟩ := hl.of_open (hl.of_loadFailure hf)
    exact (State.timed_iff_of_none (s := s.failLoad why) hc).mpr ((State.timed_iff_of_none hc).mp h)
  | mark c hc | selfStart c hc => exact .takeMark (h.inRange hc) hc _ _ _
  | riseStart c hc => exact .takeMark (s := s.riseFrm) (h.inRange hc) hc _ _ _
  | expire c ha => exact .takeMark (s := s.reach c _ _) (h.inRange ha.1) ha.1 _ _ _
  | fall => exact h.fall
  | passOver c p hc => exact h.passOver hc p
  | hold c ha => exact h.hold ha
  | pullEnd c hc => exact (h.advanceTo hc 8).endPull hc
  | rise _ hp => exact h.riseFrm hp
  | busFault c hc _ hlow hp => exact h.busFault hc hlow hp
  | silence c n hc => exact h.elapse hc n
  | openPeer c kind place v k ha => exact h.reach ha.1 place v
  | openOwnClaim c ha =>
    exact (h.reach ha.1 s.me _).of_keepsTime (State.openOwnClaim_frame _ c .config (by decide))
      (State.keepsTime_openOwnClaim _ c)
  | openOwnDigest c place v k ha => exact h.reach ha.1 place v
  | leadInEnd c v tx hc => exact h.advanceTo hc v
  | sent c kind i tx hc => exact (h.toSample hc kind i).of_frame (State.setTx_frame _ _) (by decide)
  | collide c kind i hc => exact (h.toSample hc kind i).congr rfl rfl Iff.rfl
  | settleOwn c kind line v hc => exact (h.advanceTo hc v).of_frame (State.settle_frame _ _ _ _) (by decide)
  | settlePeer c kind k line v hc =>
    refine State.Timed.of_keepsTime ((h.advanceTo hc v).of_frame (State.settle_frame _ kind k _) (by decide)) ?_
      (State.keepsTime_handRecord _ _ _ _)
    exact State.handRecord_frame _ _ _ _ .config (by decide)
  | close c ha =>
    exact (h.reach ha.1 _ _).of_keepsTime (State.closeClaims_frame _ c .config (by decide)) (State.keepsTime_closeClaims _ c)
  | allocate c => exact h.of_frame (s.completeAllocation_frame c) (by decide)
  | vote c own ha => exact (h.reach ha.1 _ _).of_frame (State.vote_frame _ c own) (by decide)
  | noVote c ha => exact h.reach ha.1 _ _
  | slotStart c k ha => exact (h.reach ha.1 _ _).of_frame (State.startSlot_frame _ c k) (by decide)
  | slotEnd c k ha => exact (h.reach ha.1 _ _).of_frame (State.engineSlotEnd_onlyChanges _ c k) (by decide)
  | patternEdge c r e hc _ he =>
    exact (h.edgeTime hc r e.offset (Settings.inRange_patternEdge (h.inRange hc) he)).congr rfl rfl Iff.rfl
  | samples => exact h.congr rfl rfl Iff.rfl
  | arrive c input lows highs cls =>
    exact State.Timed.of_frame (s := s.setFilter input _) (h.congr rfl rfl Iff.rfl) (State.arrive_frame _ cls) (by decide)
  | endTransaction => exact h.of_keepsTime (s.endTransaction_frame .config (by decide)) s.keepsTime_endTransaction
  | code code => exact h.of_frame (s.completeCode_frame code) (by decide)

theorem StepEffect.timed {s t : State} (he : StepEffect s t) (hl : s.Loaded) (h : s.Timed) : t.Timed := by
  cases he with
  | command _ he => exact he.timed hl h
  | clock c hc => exact h.clock hc
  | bootClock => exact h

end Sys2Proof.Machine

namespace Sys2Proof.Proofs

open Sys2Proof.Machine

/-- Settles O58: a mark starts the timer lawfully whatever it was; time, and the reactions that change its frame number and its
silence timer, keep the law. -/
theorem stepKeepsTimer : Obligations.StepKeepsTimer := by
  unfold Obligations.StepKeepsTimer
  exact fun _ _ hs h => step_keeps (P := fun s => s.Loaded ∧ s.Timed) (fun _ _ h => h) (fun _ _ h => h)
    (fun _ _ ⟨hl, ht⟩ he => he.timed hl ht) ⟨hs.2.1, hs.2.2.1⟩ h

end Sys2Proof.Proofs
end

section
/-! Load state, station state and the Membership Unit's law (O57): the law of the unit by itself, the loader's part of the other, and
what every reaction that moves the station keeps. -/

namespace Sys2Proof.Machine

/-! ### The law of the Membership Unit -/

/-- What R40, R41, R43, R53, R55, R58, R59 and R61 say of the Membership Unit of station `me` in each station state. -/
structure Membership.Lawful (m : Membership) (me : Nat) : Prop where
  own : m.peers.getD me PeerEntry.cleared = PeerEntry.cleared
  ownBit : m.heardMap.getLsbD me = false
  cleared : m.station.clearsPeers = true → m.peers = List.replicate 16 PeerEntry.cleared ∧ m.heardMap = 0
  leaves : m.leavePending = true → m.station = .member
  sent : m.joiningSent ≤ 3
  frames : m.joiningFrames < 16
  streak : m.streak < 2
  foreignOnly : m.foreignOnly < 4
  joins : m.station ≠ .joining → m.joiningSent = 0 ∧ m.joiningFrames = 0
  collides : m.station.announces = false → m.streak = 0
  searches : m.station ≠ .listening → m.station ≠ .joining → m.foreignOnly = 0
  isolated : m.isolation.isSome = true ↔ m.station = .isolated

theorem State.membered_iff (s : State) : s.Membered ↔ s.membership.Lawful s.me :=
  ⟨fun ⟨h1, h2, h3, h4, h5, h6, h7, h8, h9, h10, h11, h12⟩ => ⟨h1, h2, h3, h4, h5, h6, h7, h8, h9, h10, h11, h12⟩,
    fun ⟨h1, h2, h3, h4, h5, h6, h7, h8, h9, h10, h11, h12⟩ => ⟨h1, h2, h3, h4, h5, h6, h7, h8, h9, h10, h11, h12⟩⟩

/-- A cleared unit is lawful for every station number, whatever its station state. -/
theorem Membership.Lawful.of_cleared {m : Membership} (me : Nat) (hp : m.peers = List.replicate 16 PeerEntry.cleared)
    (hh : m.heardMap = 0) (hl : m.leavePending = false) (hs : m.joiningSent = 0) (hf : m.joiningFrames = 0) (hk : m.streak = 0)
    (ho : m.foreignOnly < 4) (hz : m.station ≠ .listening → m.station ≠ .joining → m.foreignOnly = 0)
    (hi : m.isolation.isSome = true ↔ m.station = .isolated) : m.Lawful me :=
  ⟨by rw [hp]; exact getD_replicate_self .., by simp [hh], fun _ => ⟨hp, hh⟩, fun h => by simp [hl] at h, by omega, by omega,
    by omega, ho, fun _ => ⟨hs, hf⟩, fun _ => hk, hz, hi⟩

/-- The unit of a station that keeps no peers is cleared but for what its state says. -/
theorem Membership.Lawful.withdraw {st : StationState} {why : Option IsolationReason}
    (h : why.isSome = true ↔ st = .isolated) (m : Membership) (me : Nat) : (m.withdraw st why).Lawful me :=
  .of_cleared me rfl rfl rfl rfl rfl rfl (Nat.zero_lt_succ 3) (fun _ _ => rfl) h

theorem Membership.Lawful.toListening {m : Membership} {me : Nat} (h : m.Lawful me) (hi : m.station ≠ .isolated) :
    ({ m.clearPeers with
      station := .listening, observation := .unaligned, listenRef := none, streak := 0, joiningSent := 0,
      joiningFrames := 0, leavePending := false } : Membership).Lawful me :=
  .of_cleared me rfl rfl rfl rfl rfl rfl h.foreignOnly (fun h => absurd rfl h)
    ⟨fun hs => absurd (h.isolated.mp hs) hi, nofun⟩

theorem Membership.Lawful.toJoining {m : Membership} {me : Nat} (h : m.Lawful me) (hl : m.station = .listening) :
    ({ m with station := .joining, joiningSent := 0, joiningFrames := 0 } : Membership).Lawful me := by
  obtain ⟨h1, h2, -, h4, -, -, h7, h8, -, -, -, h12⟩ := h
  refine ⟨h1, h2, nofun, fun hp => ?_, Nat.zero_le _, Nat.succ_pos _, h7, h8, fun _ => ⟨rfl, rfl⟩, nofun, fun _ h => absurd rfl h,
    fun hs => ?_, nofun⟩
  · rw [hl] at h4; cases h4 hp
  · rw [hl] at h12; cases h12.mp hs

theorem Membership.Lawful.toMember {m : Membership} {me : Nat} (h : m.Lawful me) (hj : m.station = .joining) :
    ({ m with station := .member, foreignOnly := 0, joiningSent := 0, joiningFrames := 0 } : Membership).Lawful me := by
  obtain ⟨h1, h2, -, -, -, -, h7, -, -, -, -, h12⟩ := h
  refine ⟨h1, h2, nofun, fun _ => rfl, Nat.zero_le _, Nat.succ_pos _, h7, Nat.succ_pos _, fun _ => ⟨rfl, rfl⟩, nofun, fun _ _ => rfl,
    fun hs => ?_, nofun⟩
  rw [hj] at h12; cases h12.mp hs

theorem Membership.Lawful.toLeaving {m : Membership} {me : Nat} (h : m.Lawful me) (hm : m.station = .member) :
    ({ m with station := .leaving, leavePending := false } : Membership).Lawful me := by
  obtain ⟨h1, h2, -, -, h5, h6, h7, h8, h9, -, h11, h12⟩ := h
  rw [hm] at h9 h11 h12
  exact ⟨h1, h2, nofun, nofun, h5, h6, h7, h8, fun _ => h9 nofun, nofun, fun _ _ => h11 nofun nofun,
    fun hs => absurd (h12.mp hs) nofun, nofun⟩

theorem Membership.Lawful.toLoadFailed {m : Membership} {me : Nat} (h : m.Lawful me) (hm : m.station = .loading) :
    ({ m with station := .loadFailed } : Membership).Lawful me := by
  obtain ⟨h1, h2, h3, h4, h5, h6, h7, h8, h9, h10, h11, h12⟩ := h
  rw [hm] at h3 h4 h9 h10 h11 h12
  exact ⟨h1, h2, fun _ => h3 rfl, fun hp => absurd (h4 hp) nofun, h5, h6, h7, h8, fun _ => h9 nofun, fun _ => h10 rfl,
    fun _ _ => h11 nofun nofun, fun hs => absurd (h12.mp hs) nofun, nofun⟩

/-- A new peer table with the own entry as it was, in a station that keeps one. -/
theorem Membership.Lawful.setPeers {m : Membership} {me : Nat} (h : m.Lawful me) (hk : m.station.keepsPeers = true)
    {peers : List PeerEntry} (hp : peers.getD me PeerEntry.cleared = m.peers.getD me PeerEntry.cleared) :
    ({ m with peers := peers } : Membership).Lawful me := by
  obtain ⟨h1, h2, -, h4, h5, h6, h7, h8, h9, h10, h11, h12⟩ := h
  refine ⟨hp.trans h1, h2, fun hc => ?_, h4, h5, h6, h7, h8, h9, h10, h11, h12⟩
  cases hs : m.station <;> simp_all [StationState.clearsPeers, StationState.keepsPeers]

theorem Membership.Lawful.setStreak {m : Membership} {me : Nat} (h : m.Lawful me) (ha : m.station.announces = true) {n : Nat}
    (hn : n < 2) : ({ m with streak := n } : Membership).Lawful me := by
  obtain ⟨h1, h2, h3, h4, h5, h6, -, h8, h9, -, h11, h12⟩ := h
  exact ⟨h1, h2, h3, h4, h5, h6, hn, h8, h9, fun hf => by simp [ha] at hf, h11, h12⟩

theorem Membership.Lawful.setForeignOnly {m : Membership} {me : Nat} (h : m.Lawful me)
    (hs : m.station = .listening ∨ m.station = .joining) {n : Nat} (hn : n < 4) :
    ({ m with foreignOnly := n } : Membership).Lawful me := by
  obtain ⟨h1, h2, h3, h4, h5, h6, h7, -, h9, h10, -, h12⟩ := h
  exact ⟨h1, h2, h3, h4, h5, h6, h7, hn, h9, h10, fun hl hj => (hs.elim hl hj).elim, h12⟩

theorem Membership.Lawful.setJoining {m : Membership} {me : Nat} (h : m.Lawful me) (hs : m.station = .joining) {n k : Nat}
    (hn : n ≤ 3) (hk : k < 16) : ({ m with joiningSent := n, joiningFrames := k } : Membership).Lawful me := by
  obtain ⟨h1, h2, h3, h4, -, -, h7, h8, -, h10, h11, h12⟩ := h
  exact ⟨h1, h2, h3, h4, hn, hk, h7, h8, fun hj => absurd hs hj, h10, h11, h12⟩

theorem Membership.Lawful.setLeavePending {m : Membership} {me : Nat} (h : m.Lawful me) {b : Bool}
    (hb : b = true → m.station = .member) : ({ m with leavePending := b } : Membership).Lawful me := by
  obtain ⟨h1, h2, h3, -, h5, h6, h7, h8, h9, h10, h11, h12⟩ := h
  exact ⟨h1, h2, h3, hb, h5, h6, h7, h8, h9, h10, h11, h12⟩

/-- What is observed in LISTENING does not enter the law. -/
theorem Membership.Lawful.setObservation {m : Membership} {me : Nat} (h : m.Lawful me) (o : Observation) (r : Option Byte) :
    ({ m with observation := o, listenRef := r } : Membership).Lawful me := by
  obtain ⟨h1, h2, h3, h4, h5, h6, h7, h8, h9, h10, h11, h12⟩ := h
  exact ⟨h1, h2, h3, h4, h5, h6, h7, h8, h9, h10, h11, h12⟩

theorem Membership.Lawful.formHeardMap {m : Membership} {me : Nat} (h : m.Lawful me) (hme : me < 16) : m.formHeardMap.Lawful me := by
  have ⟨h1, _, h3, h4, h5, h6, h7, h8, h9, h10, h11, h12⟩ := h
  refine ⟨?_, ?_, fun hc => ?_, h4, h5, h6, h7, h8, h9, h10, h11, h12⟩
  · rw [m.formHeardMap_peer, h1]; rfl
  · rw [m.formHeardMap_heardMap hme, h1]; rfl
  · obtain ⟨hp, hh⟩ := h3 hc
    rw [Membership.formHeardMap_of_cleared (by rw [hp]; exact fun k => getD_replicate_self ..) hh]
    exact ⟨hp, hh⟩

/-! ### What moves the station -/

/-- The states of a station that has its configuration (R42). -/
def StationState.operates : StationState → Bool
  | .loading => false
  | .loadFailed => false
  | _ => true

/-- Straps, configuration and load state stand; a station that leaves its state goes from one that has a configuration to another;
and the law of the Membership Unit is kept. -/
def State.keepsStation (s t : State) : Prop :=
  (t.rstLow = s.rstLow ∧ t.sid = s.sid ∧ t.cfg = s.cfg ∧ t.loader = s.loader) ∧
  (t.station = s.station ∨ (s.station.operates = true ∧ t.station.operates = true)) ∧
  (s.membership.Lawful s.me → t.membership.Lawful s.me)

theorem State.keepsStation_trans {s t u : State} (h : s.keepsStation t) (h' : t.keepsStation u) : s.keepsStation u := by
  obtain ⟨⟨hr, hs, hc, hl⟩, ho, hm⟩ := h
  obtain ⟨⟨hr', hs', hc', hl'⟩, ho', hm'⟩ := h'
  have hme : t.me = s.me := congrArg BitVec.toNat hs
  refine ⟨⟨hr'.trans hr, hs'.trans hs, hc'.trans hc, hl'.trans hl⟩, ?_, fun h => by rw [← hme] at h hm ⊢; exact hm' (hm h)⟩
  rcases ho with e | ⟨h1, h2⟩ <;> rcases ho' with e' | ⟨h1', h2'⟩
  · exact .inl (e'.trans e)
  · exact .inr ⟨by rw [← e]; exact h1', h2'⟩
  · exact .inr ⟨h1, by rw [e']; exact h2⟩
  · exact .inr ⟨h1, h2'⟩

/-- The blocks outside which the station and its configuration lie. -/
def stationBlocks : List Block := [.timer, .bus, .alloc, .agree, .demand, .engine, .events, .counters, .port, .draws, .pending]

/-- What changes neither the Membership Unit nor the load keeps the station. -/
theorem State.keepsStation_of_frame {s t : State} {l : List Block} (h : s.onlyChanges t l) (hl : ∀ b ∈ l, b ∈ stationBlocks) :
    s.keepsStation t := by
  have h := State.onlyChanges_mono h hl
  obtain ⟨hr, hs⟩ := h .straps (by decide)
  have hm : t.membership = s.membership := h .membership (by decide)
  exact ⟨⟨hr, hs, h .config (by decide), h .loader (by decide)⟩, .inl (congrArg Membership.station hm), fun hl => hm ▸ hl⟩

theorem State.keepsStation_refl (s : State) : s.keepsStation s := State.keepsStation_of_frame (s.onlyChanges_refl []) (by decide)

/-- A reaction of the Membership Unit keeps the station where it keeps the unit's law. -/
theorem State.keepsStation_of_membership {s t : State} {l : List Block} (h : s.onlyChanges t l)
    (hl : ∀ b ∈ l, b ∈ Block.membership :: stationBlocks)
    (ho : t.station = s.station ∨ (s.station.operates = true ∧ t.station.operates = true))
    (hm : s.membership.Lawful s.me → t.membership.Lawful s.me) : s.keepsStation t := by
  have h := State.onlyChanges_mono h hl
  obtain ⟨hr, hs⟩ := h .straps (by decide)
  exact ⟨⟨hr, hs, h .config (by decide), h .loader (by decide)⟩, ho, hm⟩

theorem State.keepsStation_offer (s : State) (r : EventRecord) : s.keepsStation (s.offer r) :=
  State.keepsStation_of_frame (s.offer_frame r) (by decide)

theorem State.keepsStation_setMembership {s : State} {m : Membership} (hs : m.station = s.membership.station)
    (hm : s.membership.Lawful s.me → m.Lawful s.me) : s.keepsStation (s.setMembership m) :=
  State.keepsStation_of_membership (s.setMembership_frame m) (by decide) (.inl hs) hm

theorem State.enterListening_membership (s : State) : s.enterListening.membership = { s.membership.clearPeers with
    station := .listening, observation := .unaligned, listenRef := none, streak := 0, joiningSent := 0,
    joiningFrames := 0, leavePending := false } := by
  by_cases hm : s.station = .member
  · rw [State.enterListening_of_member hm]
  · rw [State.enterListening_of_ne hm]

theorem State.keepsStation_enterListening {s : State} (ho : s.station.operates = true) (hi : s.station ≠ .isolated) :
    s.keepsStation s.enterListening :=
  State.keepsStation_of_membership s.enterListening_frame (by decide) (.inr ⟨ho, rfl⟩) fun h => by
    rw [s.enterListening_membership]
    exact h.toListening hi

theorem State.keepsStation_enterOffline {s : State} (ho : s.station.operates = true) : s.keepsStation s.enterOffline :=
  State.keepsStation_of_membership s.enterOffline_frame (by decide) (.inr ⟨ho, rfl⟩) fun _ => .withdraw (by decide) _ _

theorem State.keepsStation_enterIsolated {s : State} (ho : s.station.operates = true) (why : IsolationReason) :
    s.keepsStation (s.enterIsolated why) := by
  obtain ⟨-, hm, -⟩ := s.enterIsolated_fields why
  refine State.keepsStation_of_membership (s.enterIsolated_frame why) (by decide) (.inr ⟨ho, by rw [State.station, hm]; rfl⟩) fun _ => ?_
  rw [hm]
  exact .withdraw ⟨fun _ => rfl, fun _ => rfl⟩ _ _

theorem State.keepsStation_enterJoining {s : State} (h : s.station = .listening) : s.keepsStation s.enterJoining :=
  State.keepsStation_of_membership s.enterJoining_frame (by decide) (.inr ⟨by rw [h]; rfl, rfl⟩) fun hm => hm.toJoining h

theorem State.keepsStation_enterMember {s : State} (h : s.station = .joining) : s.keepsStation s.enterMember :=
  State.keepsStation_of_membership s.enterMember_frame (by decide) (.inr ⟨by rw [h]; rfl, rfl⟩) fun hm => hm.toMember h

theorem State.keepsStation_enterLeaving {s : State} (h : s.station = .member) : s.keepsStation s.enterLeaving :=
  State.keepsStation_of_membership s.enterLeaving_frame (by decide) (.inr ⟨by rw [h]; rfl, rfl⟩) fun hm => by
    rw [State.enterLeaving, State.exitMember_eq h]
    exact hm.toLeaving h

/-! ### The reactions that move the station -/

theorem State.keepsStation_membershipMark (s : State) (cls : MarkClass) (self : Bool) :
    s.keepsStation (s.membershipMark cls self) := by
  have hform : s.keepsStation (s.setMembership s.membership.formHeardMap) :=
    State.keepsStation_setMembership rfl fun h => h.formHeardMap s.me_lt
  unfold State.membershipMark
  dsimp only
  split
  · next hl =>
    have hjoin (f : Byte) : s.keepsStation (({ s.setMembership s.membership.formHeardMap with
        timer := { s.timer with frame := f } } : State).enterJoining) :=
      State.keepsStation_trans (State.keepsStation_trans hform (State.keepsStation_of_frame (State.setTimer_frame _ _) (by decide)))
        (State.keepsStation_enterJoining hl)
    split
    · exact hjoin s.timer.frame
    · split
      · exact hjoin _
      · exact State.keepsStation_trans hform (State.keepsStation_setMembership rfl fun h => h.setObservation _ _)
  · next hl => exact State.keepsStation_trans hform (State.keepsStation_enterOffline
      (show s.station.operates = true by rw [hl]; rfl))
  · exact hform

theorem State.keepsStation_takeMark (s : State) (c : Settings) (cls : MarkClass) (selfStart pulls : Bool) :
    s.keepsStation (s.takeMark c cls selfStart pulls) := by
  rw [s.takeMark_eq]
  refine State.keepsStation_trans (State.keepsStation_trans
    (State.keepsStation_of_frame (s.afterQueues_frame c cls selfStart pulls) (by decide))
    (State.keepsStation_membershipMark _ cls selfStart)) ?_
  refine State.keepsStation_of_frame (l := [.alloc, .agree, .bus, .engine]) (fun b hb => ?_) (by decide)
  cases b <;> simp_all [Block.same]

theorem State.keepsStation_faultStation (s : State) : s.keepsStation s.faultStation := by
  rcases s.faultStation_cases with ⟨h, e⟩ | ⟨h, e⟩ | ⟨h, e⟩ | ⟨h, e⟩ | ⟨h, e⟩ <;> rw [e]
  · exact State.keepsStation_enterListening (by rw [h]; rfl) (by rw [h]; decide)
  · exact State.keepsStation_enterListening (by rw [h]; rfl) (by rw [h]; decide)
  · exact State.keepsStation_enterOffline (by rw [h]; rfl)
  · exact State.keepsStation_setMembership rfl fun h => h.setObservation _ _
  · exact s.keepsStation_refl

theorem State.keepsStation_busFault (s : State) (c : Settings) :
    s.keepsStation ((s.elapse c (65 - s.timer.markLow)).takeBusFault c) := by
  rw [s.takeBusFault_eq]
  have hf : s.onlyChanges (s.faulted c) [.timer, .engine, .events, .counters] :=
    State.onlyChanges_comp (s.elapse_frame c _) (State.onlyChanges_comp (State.count_frame _ _ _) (State.offer_frame _ _)
      (m := [.events, .counters]) (by decide)) (by decide)
  refine State.keepsStation_trans (State.keepsStation_trans (State.keepsStation_of_frame hf (by decide))
    (State.keepsStation_faultStation _)) ?_
  refine State.keepsStation_of_frame (l := [.timer, .bus, .alloc, .engine]) (fun b hb => ?_) (by decide)
  cases b <;> simp_all [Block.same, State.stopFrame]

theorem State.keepsStation_openOwnClaim (s : State) (c : Settings) : s.keepsStation (s.openOwnClaim c) := by
  have hreact (u : State) : u.keepsStation (u.ownWindowReaction c) := by
    unfold State.ownWindowReaction
    split
    · split
      · exact State.keepsStation_enterLeaving ‹_›
      · exact State.keepsStation_of_frame (u.setDemand_frame _) (by decide)
    · exact State.keepsStation_of_frame (u.setDemand_frame _) (by decide)
  have hopen : s.keepsStation ((s.openWindow .claim s.me).ownWindowReaction c) :=
    State.keepsStation_trans (State.keepsStation_of_frame (s.openWindow_frame _ _) (by decide)) (hreact _)
  unfold State.openOwnClaim
  dsimp only
  split
  · exact State.keepsStation_trans hopen (State.keepsStation_of_frame (State.startLeadIn_frame _ _) (by decide))
  · exact hopen

theorem State.keepsStation_handRecord (s : State) (kind : WindowKind) {k : Nat} (hk : k ≠ s.me) (r : WindowRecord) :
    s.keepsStation (s.handRecord kind k r) := by
  unfold State.handRecord
  split
  · split
    · next hp =>
      refine State.keepsStation_setMembership (m := { s.membership with
        peers := s.membership.peers.set k { s.peer k with heard := true } }) rfl fun h => h.setPeers hp ?_
      simp only [List.getD_eq_getElem?_getD, List.getElem?_set_ne hk]
    · exact s.keepsStation_refl
  · exact State.keepsStation_of_frame (s.setAgree_frame _) (by decide)
  · exact s.keepsStation_refl

theorem State.keepsStation_endTransaction (s : State) : s.keepsStation s.endTransaction := by
  have hport (u : State) (p : LocalPort) : u.keepsStation { u with port := p } :=
    State.keepsStation_of_frame (u.setPort_frame p) (by decide)
  have hevents (q : EventQueue) : s.keepsStation { s with events := q } :=
    State.keepsStation_of_frame (s.setEvents_frame q) (by decide)
  have hcmd (c : PortCommand) : s.keepsStation (s.takeCommand c).1 := by
    cases c with
    | clearCounters => exact State.keepsStation_of_frame (s.setCounters_frame _) (by decide)
    | leave =>
      simp only [State.takeCommand, State.takeLeave]
      split
      · next hm => exact State.keepsStation_setMembership rfl fun h => h.setLeavePending fun _ => hm
      · next hm => exact State.keepsStation_enterOffline (by rw [hm]; rfl)
      · next hm => exact State.keepsStation_enterOffline (by rw [hm]; rfl)
      · exact s.keepsStation_refl
    | rejoin =>
      simp only [State.takeCommand, State.takeRejoin]
      split
      · next hm => exact State.keepsStation_enterListening (by rw [hm]; rfl) (by rw [hm]; decide)
      · split
        · exact State.keepsStation_setMembership rfl fun h => h.setLeavePending nofun
        · exact s.keepsStation_refl
      · exact s.keepsStation_refl
  have hact : s.keepsStation s.endAction := by
    unfold State.endAction
    split
    · split
      · split
        · exact hevents _
        · exact s.keepsStation_refl
      · split
        · exact hevents _
        · exact s.keepsStation_refl
      · exact State.keepsStation_trans (hcmd _) (hport _ _)
      · exact s.keepsStation_refl
    · exact s.keepsStation_refl
  exact State.keepsStation_trans hact (hport _ _)

/-! ### Claim phase close, step by step -/

/-- The foreign-only frame count that step 4 gives (R59). -/
def State.nextForeignOnly (s : State) : Nat := if s.foreignOnlyFrame then s.membership.foreignOnly + 1 else 0

theorem State.checkConfig_of_other {s : State} (hl : s.station ≠ .listening) (hj : s.station ≠ .joining) : s.checkConfig = s :=
  if_neg (not_or.mpr ⟨hl, hj⟩)

theorem State.checkConfig_of_below {s : State} (h : s.station = .listening ∨ s.station = .joining) (hn : s.nextForeignOnly < 4) :
    s.checkConfig = s.setMembership { s.membership with foreignOnly := s.nextForeignOnly } :=
  (if_pos h).trans (if_neg (Nat.not_le.mpr hn))

theorem State.checkConfig_of_limit {s : State} (h : s.station = .listening ∨ s.station = .joining) (hn : 4 ≤ s.nextForeignOnly) :
    s.checkConfig = (s.setMembership { s.membership with foreignOnly := s.nextForeignOnly }).enterIsolated .config :=
  (if_pos h).trans (if_pos hn)

/-- The joining-sent count that step 5 gives (R53). -/
def State.nextSent (s : State) : Nat := nextJoiningSent s.membership.joiningSent s.ownClaimOutcome

/-- The station with that count. -/
def State.countJoining (s : State) : State := s.setMembership { s.membership with joiningSent := s.nextSent }

theorem nextJoiningSent_le {n : Nat} (h : n ≤ 3) (o : TxOutcome) : nextJoiningSent n o ≤ 3 := by
  cases o <;> simp [nextJoiningSent, h]

theorem State.checkJoining_of_other {s : State} (h : s.station ≠ .joining) : s.checkJoining = s := if_neg h

theorem State.checkJoining_of_admitted {s : State} (h : s.station = .joining) (hn : s.nextSent = 3)
    (ha : s.countJoining.heardByAllMembers = true) : s.checkJoining = s.countJoining.enterMember :=
  (if_pos h).trans (if_pos ⟨hn, ha⟩)

theorem State.checkJoining_of_timeout {s : State} (h : s.station = .joining)
    (hn : ¬ (s.nextSent = 3 ∧ s.countJoining.heardByAllMembers = true)) (hm : 16 ≤ s.membership.joiningFrames + 1) :
    s.checkJoining = (s.countJoining.offer { kind := .joinTimeout, frame := s.timer.frame }).enterListening :=
  (if_pos h).trans ((if_neg hn).trans (if_pos hm))

theorem State.checkJoining_of_waiting {s : State} (h : s.station = .joining)
    (hn : ¬ (s.nextSent = 3 ∧ s.countJoining.heardByAllMembers = true)) (hm : s.membership.joiningFrames + 1 < 16) :
    s.checkJoining = s.setMembership
      { s.membership with joiningSent := s.nextSent, joiningFrames := s.membership.joiningFrames + 1 } :=
  (if_pos h).trans ((if_neg hn).trans (if_neg (Nat.not_le.mpr hm)))

theorem State.updatedPeer_me (s : State) : s.updatedPeer s.me = (s.peer s.me, none) := if_pos rfl

theorem State.keepsStation_updatePeers {s : State} (h : s.station.keepsPeers = true) : s.keepsStation s.updatePeers := by
  refine State.keepsStation_trans (State.keepsStation_setMembership (m := { s.membership with
    peers := (List.range 16).map (fun k => (s.updatedPeer k).1) }) rfl fun hm => hm.setPeers h ?_)
    (State.keepsStation_of_frame (State.offerAll_frame _ _) (by decide))
  rw [List.getD_eq_getElem?_getD, List.getElem?_map, List.getElem?_range s.me_lt]
  exact congrArg Prod.fst (s.updatedPeer_me)

theorem State.keepsStation_applyReference (s : State) : s.keepsStation s.applyReference.1 := by
  rcases s.applyReference_cases with h | ⟨f, h⟩ | ⟨f, r, h⟩ <;> rw [h]
  · exact s.keepsStation_refl
  · exact State.keepsStation_setMembership rfl fun h => h.setObservation _ _
  · exact State.keepsStation_trans (State.keepsStation_of_frame (s.setTimer_frame _) (by decide)) (State.keepsStation_offer _ r)

theorem StationState.operates_of_announces {st : StationState} (h : st.announces = true) : st.operates = true := by
  cases st with
  | loading | loadFailed => cases h
  | _ => rfl

/-- Isolation clears the unit, so its law need not hold of the counts that isolate it. -/
theorem State.keepsStation_isolate {s : State} (ho : s.station.operates = true) {m : Membership} (hm : m.station = s.membership.station)
    (why : IsolationReason) : s.keepsStation ((s.setMembership m).enterIsolated why) := by
  have ho' : (s.setMembership m).station.operates = true := by rw [← ho]; exact congrArg _ hm
  obtain ⟨hf, -, -⟩ := State.keepsStation_enterIsolated ho' why
  obtain ⟨-, hmem, -⟩ := (s.setMembership m).enterIsolated_fields why
  refine ⟨hf, .inr ⟨ho, by rw [State.station, hmem]; rfl⟩, fun _ => ?_⟩
  rw [hmem]
  exact .withdraw ⟨fun _ => rfl, fun _ => rfl⟩ _ _

theorem State.keepsStation_checkDuplicate (s : State) : s.keepsStation s.checkDuplicate := by
  by_cases ha : s.station.announces = true
  · rcases s.checkDuplicate_cases with ⟨hf, -⟩ | ⟨n, -, ⟨hn, h⟩ | ⟨-, h⟩⟩
    · rw [ha] at hf; cases hf
    · rw [h]
      exact State.keepsStation_setMembership rfl fun hm => hm.setStreak ha hn
    · rw [h]
      exact State.keepsStation_isolate (StationState.operates_of_announces ha) (m := { s.membership with streak := n }) rfl _
  · rw [State.checkDuplicate, if_neg ha]
    exact s.keepsStation_refl

theorem State.keepsStation_checkConfig (s : State) : s.keepsStation s.checkConfig := by
  by_cases hs : s.station = .listening ∨ s.station = .joining
  · rcases Nat.lt_or_ge s.nextForeignOnly 4 with hn | hn
    · rw [State.checkConfig_of_below hs hn]
      exact State.keepsStation_setMembership rfl fun hm => hm.setForeignOnly hs hn
    · rw [State.checkConfig_of_limit hs hn]
      exact State.keepsStation_isolate (by rcases hs with h | h <;> rw [h] <;> rfl)
        (m := { s.membership with foreignOnly := s.nextForeignOnly }) rfl _
  · obtain ⟨hl, hj⟩ := not_or.mp hs
    rw [State.checkConfig_of_other hl hj]
    exact s.keepsStation_refl

theorem State.keepsStation_checkJoining (s : State) : s.keepsStation s.checkJoining := by
  by_cases hj : s.station = .joining
  · have hcount : s.keepsStation s.countJoining := State.keepsStation_setMembership rfl fun hm =>
      hm.setJoining hj (nextJoiningSent_le hm.sent _) hm.frames
    by_cases ha : s.nextSent = 3 ∧ s.countJoining.heardByAllMembers = true
    · rw [State.checkJoining_of_admitted hj ha.1 ha.2]
      exact State.keepsStation_trans hcount (State.keepsStation_enterMember hj)
    · rcases Nat.lt_or_ge (s.membership.joiningFrames + 1) 16 with hm | hm
      · rw [State.checkJoining_of_waiting hj ha hm]
        exact State.keepsStation_setMembership rfl fun h => h.setJoining hj (nextJoiningSent_le h.sent _) hm
      · rw [State.checkJoining_of_timeout hj ha hm]
        refine State.keepsStation_trans (State.keepsStation_trans hcount (State.keepsStation_offer _ _))
          (State.keepsStation_enterListening ?_ ?_)
        · show s.station.operates = true
          rw [hj]; rfl
        · show s.station ≠ .isolated
          rw [hj]; decide
  · rw [State.checkJoining_of_other hj]
    exact s.keepsStation_refl

theorem State.keepsStation_closeClaims (s : State) (c : Settings) : s.keepsStation (s.closeClaims c) := by
  have hclose : s.keepsStation s.membershipClose.1 := by
    unfold State.membershipClose
    split
    · next hk =>
      exact State.keepsStation_trans (State.keepsStation_updatePeers hk) (State.keepsStation_trans
        s.updatePeers.keepsStation_applyReference (State.keepsStation_trans (State.keepsStation_checkDuplicate _)
          (State.keepsStation_trans (State.keepsStation_checkConfig _) (State.keepsStation_checkJoining _))))
    · exact s.keepsStation_refl
  exact State.keepsStation_trans hclose (State.keepsStation_of_frame
    (State.onlyChanges_comp (State.setAgree_frame _ _) (State.setAlloc_frame _ _) (m := [.agree, .alloc]) (by decide)) (by decide))

/-! ### The load -/

/-- What R134 and R145 say of the boot port and of a test that failed, in each load state. -/
def ImageLoader.Steady (l : ImageLoader) : Prop :=
  (l.boot.isSome = true → l.state = .headers ∨ l.state = .merging) ∧
  (l.failing.isSome = true → (l.state = .headers ∨ l.state = .merging) ∧ l.boot = none) ∧
  (l.boot = none → l.bootPause = 0 ∧ l.bootClock = 0) ∧
  (l.bootPause ≠ 0 → l.bootClock = 0) ∧ l.bootClock ≤ 640

theorem State.loaded_iff (s : State) : s.Loaded ↔ (s.cfg.isSome = true ↔ s.loader.state = .loaded) ∧
    (s.station = .loadFailed ↔ s.loader.state = .failed) ∧ (s.station = .loading ↔ s.loader.state.open = true) ∧
    (s.rstLow = true → s.loader.state = .idle) ∧ s.loader.Steady := Iff.rfl

/-- Where a read or a failed test leaves the load: still in it, with a test failed only where no read is left. -/
def ImageLoader.Reading (l : ImageLoader) : Prop :=
  (l.state = .headers ∨ l.state = .merging ∨ (l.state = .checking ∧ l.boot = none ∧ l.failing = none)) ∧
  (l.failing.isSome = true → l.boot = none)

theorem ImageLoader.Reading.fail {l : ImageLoader} (h : l.state = .headers ∨ l.state = .merging) (why : LoadReason) :
    (l.fail why).Reading := ⟨h.imp_right .inl, fun _ => rfl⟩

theorem ImageLoader.Reading.choose {l : ImageLoader} (hs : l.state = .headers) (hf : l.failing = none) (h0 h1 : HeaderRead) :
    (l.choose h0 h1).Reading := by
  unfold ImageLoader.choose
  split
  · exact .fail (.inl hs) _
  · dsimp only
    split
    · exact .fail (.inl hs) _
    · exact ⟨.inr (.inl rfl), fun h => by simp [hf] at h⟩

theorem ImageLoader.Reading.take {l : ImageLoader} (hs : l.state = .merging) (hf : l.failing = none) (primary copy i : Nat)
    (bytes : List Byte) : (l.take primary copy i bytes).Reading := by
  unfold ImageLoader.take
  dsimp only
  split
  · exact ⟨.inr (.inl hs), fun h => by simp [hf] at h⟩
  · exact ⟨.inr (.inr ⟨rfl, rfl, hf⟩), fun _ => rfl⟩

theorem ImageLoader.Reading.merge {l : ImageLoader} (hs : l.state = .merging) (hf : l.failing = none) (primary copy i : Nat)
    (bytes : List Byte) : (l.merge primary copy i bytes).Reading := by
  unfold ImageLoader.merge
  split
  · exact .take hs hf primary copy i bytes
  · split
    · split
      · exact ⟨.inr (.inl hs), fun h => by simp [hf] at h⟩
      · exact .fail (.inr hs) _
    · exact .fail (.inr hs) _

theorem ImageLoader.Reading.granule {l : ImageLoader} (hs : l.state = .headers ∨ l.state = .merging) (hf : l.failing = none)
    (bytes : List Byte) : (l.granule bytes).Reading := by
  have hstay : l.Reading := ⟨hs.imp_right .inl, fun h => by simp [hf] at h⟩
  unfold ImageLoader.granule
  split
  · next he _ => exact ⟨.inl he, fun h => by simp [hf] at h⟩
  · next he _ =>
    dsimp only
    split
    · exact .choose (l := { l with header1 := some (headerOf bytes) }) he hf _ _
    · exact .fail (.inl he) _
  · next he _ =>
    split
    · exact .merge he hf _ _ _ bytes
    · exact hstay
  · exact hstay

theorem ImageLoader.Reading.open {l : ImageLoader} (h : l.Reading) : l.state.open = true := by
  rcases h.1 with e | e | ⟨e, -⟩ <;> rw [e] <;> rfl

theorem ImageLoader.Reading.pause {l : ImageLoader} (h : l.Reading) (n : Nat) : (l.pause n).Steady := by
  obtain ⟨hst, hfail⟩ := h
  have hreads (hb : l.state = .checking → l.boot ≠ none ∨ l.failing ≠ none) : l.state = .headers ∨ l.state = .merging := by
    rcases hst with e | e | ⟨e, h0, h1⟩
    · exact .inl e
    · exact .inr e
    · exact ((hb e).elim (· h0) (· h1)).elim
  refine ⟨fun hb => hreads fun _ => .inl ?_, fun hf => ⟨hreads fun _ => .inr ?_, hfail hf⟩, fun hb => ⟨?_, rfl⟩, fun _ => rfl,
    Nat.zero_le _⟩
  · exact Option.isSome_iff_ne_none.mp hb
  · exact Option.isSome_iff_ne_none.mp hf
  · have hb : l.boot = none := hb
    simp [ImageLoader.pause, hb]

theorem ImageLoader.Steady.clock {l : ImageLoader} (h : l.Steady) : l.clock.Steady := by
  obtain ⟨h1, h2, h3, h4, h5⟩ := h
  unfold ImageLoader.clock
  split
  · exact ⟨h1, h2, h3, h4, h5⟩
  · next hb =>
    have hb : l.boot ≠ none := by simpa using hb
    split
    · next hp => exact ⟨h1, h2, fun hn => absurd hn hb, fun hp' => absurd hp hp', Nat.min_le_right _ _⟩
    · next hp => exact ⟨h1, h2, fun hn => absurd hn hb, fun _ => h4 hp, h5⟩

/-! ### Every effect keeps station and load together -/

theorem State.Loaded.operates {s : State} (h : s.Loaded) {c : Settings} (hc : s.cfg = some c) : s.station.operates = true := by
  obtain ⟨hcfg, hfail, hopen, -⟩ := h
  have hs := hcfg.mp (by rw [hc]; rfl)
  rw [hs] at hfail hopen
  cases hst : s.station with
  | loading => cases hopen.mp hst
  | loadFailed => cases hfail.mp hst
  | _ => rfl

theorem State.Loaded.of_keepsStation {s t : State} (h : s.Loaded) (hk : s.keepsStation t) : t.Loaded := by
  obtain ⟨⟨hr, -, hc, hl⟩, hst, -⟩ := hk
  obtain ⟨h1, h2, h3, h4, h5⟩ := (s.loaded_iff).mp h
  refine t.loaded_iff.mpr ⟨by rw [hc, hl]; exact h1, ?_, ?_, by rw [hr, hl]; exact h4, by rw [hl]; exact h5⟩
  · rw [hl, ← h2]
    rcases hst with e | ⟨ho, ho'⟩
    · rw [e]
    · exact ⟨fun e => absurd ho' (by rw [e]; decide), fun e => absurd ho (by rw [e]; decide)⟩
  · rw [hl, ← h3]
    rcases hst with e | ⟨ho, ho'⟩
    · rw [e]
    · exact ⟨fun e => absurd ho' (by rw [e]; decide), fun e => absurd ho (by rw [e]; decide)⟩

theorem State.keepsStation.me {s t : State} (h : s.keepsStation t) : t.me = s.me := congrArg BitVec.toNat h.1.2.1

/-- The two laws, kept where the station is. -/
theorem State.keepsStation.laws {s t : State} (hk : s.keepsStation t) (h : s.Loaded ∧ s.membership.Lawful s.me) :
    t.Loaded ∧ t.membership.Lawful t.me := by
  obtain ⟨-, -, hm⟩ := id hk
  exact ⟨h.1.of_keepsStation hk, by rw [hk.me]; exact hm h.2⟩

theorem State.Loaded.readGranule {s : State} (h : s.Loaded) (hb : s.loader.boot.isSome = true) (bytes : List Byte) :
    (s.readGranule bytes).Loaded := by
  obtain ⟨hc, hf, ho, hr, hboot, hfail, -⟩ := h
  have hst := hboot hb
  have hopen : s.loader.state.open = true := by rcases hst with e | e <;> rw [e] <;> rfl
  have hnone : s.loader.failing = none := by
    by_contra hn
    obtain ⟨-, hb'⟩ := hfail (Option.isSome_iff_ne_none.mpr hn)
    rw [hb'] at hb; cases hb
  have hread : (s.loader.granule bytes).Reading := .granule hst hnone bytes
  have hne {st : LoadState} (h : st.open = false) (l : ImageLoader) (hl : l.state.open = true) : l.state ≠ st := by
    rintro rfl; rw [h] at hl; cases hl
  refine (s.readGranule bytes).loaded_iff.mpr ⟨?_, ?_, iff_of_true (ho.mpr hopen) hread.open, fun hl => ?_, hread.pause _⟩
  · exact iff_of_false (fun hs => hne rfl _ hopen (hc.mp hs)) (hne rfl _ hread.open)
  · exact iff_of_false (fun hs => hne rfl _ hopen (hf.mp hs)) (hne rfl _ hread.open)
  · rcases hst with e | e <;> exact absurd (hr hl) (by rw [e]; decide)

theorem State.Loaded.beginLoad {s : State} (h : s.Loaded) (hr : s.rstLow = true) (straps : BitVec 4) :
    (s.beginLoad straps).Loaded := by
  obtain ⟨hc, hf, ho, hi, -⟩ := h
  rw [hi hr] at hc hf ho
  refine ⟨iff_of_false (fun hs => by cases hc.mp hs) nofun, iff_of_false (fun hs => by cases hf.mp hs) nofun,
    iff_of_true (ho.mpr rfl) rfl, nofun, fun _ => .inl rfl, nofun, nofun, fun _ => rfl, Nat.zero_le _⟩

theorem State.Loaded.completeLoad {s : State} (h : s.Loaded) (hs : s.loadSucceeds = true) (a b : Bool) :
    (s.completeLoad a b).Loaded := by
  obtain ⟨-, -, -, hi, hboot, -, hpause, -⟩ := id h
  obtain ⟨hst, hfail, -⟩ := s.loadSucceeds_iff.mp hs
  obtain ⟨-, hl, -⟩ := h.of_loadSucceeds hs
  have hb : s.loader.boot = none := by
    by_contra hn
    rcases hboot (Option.isSome_iff_ne_none.mpr hn) with e | e <;> rw [hst] at e <;> cases e
  obtain ⟨hp, hk⟩ := hpause hb
  rw [State.completeLoad_of_loading hl]
  refine ⟨iff_of_true rfl rfl, iff_of_false nofun nofun, iff_of_false nofun nofun, fun hr => ?_, fun h => ?_, fun h => ?_,
    fun _ => ⟨hp, hk⟩, fun _ => hk, ?_⟩
  · have := hi hr
    rw [hst] at this; cases this
  · exact absurd (show s.loader.boot.isSome = true from h) (by simp [hb])
  · exact absurd (show s.loader.failing.isSome = true from h) (by simp [hfail])
  · show s.loader.bootClock ≤ 640
    omega

theorem State.Loaded.failLoad {s : State} (h : s.Loaded) {why : LoadReason} (hf : s.loadFailure = some why) :
    (s.failLoad why).Loaded := by
  have hopen := h.of_loadFailure hf
  obtain ⟨hc, -⟩ := h.of_open hopen
  obtain ⟨-, -, -, hi, -, hfail, -⟩ := h
  have hrst : s.rstLow = false := by
    by_contra hr
    have hidle := hi (by simpa using hr)
    unfold State.loadFailure at hf
    split at hf
    · next he =>
      rcases (hfail (by rw [he]; rfl)).1 with e | e <;> rw [hidle] at e <;> cases e
    · rw [hidle] at hf; cases hf
  refine ⟨iff_of_false (fun hs => ?_) nofun, iff_of_true rfl rfl, iff_of_false nofun nofun, fun hr => ?_, nofun, nofun,
    fun _ => ⟨rfl, rfl⟩, fun _ => rfl, Nat.zero_le _⟩
  · exact absurd (show s.cfg.isSome = true from hs) (by simp [hc])
  · exact absurd (show s.rstLow = true from hr) (by simp [hrst])

theorem State.Loaded.reset (s : State) : s.assertReset.Loaded :=
  ⟨iff_of_false nofun nofun, iff_of_false nofun nofun, iff_of_true rfl rfl, fun _ => rfl, nofun, nofun, fun _ => ⟨rfl, rfl⟩,
    fun _ => rfl, Nat.zero_le _⟩

theorem State.Loaded.bootClock {s : State} (h : s.Loaded) : ({ s with loader := s.loader.clock } : State).Loaded := by
  have hst : s.loader.clock.state = s.loader.state := by
    unfold ImageLoader.clock
    split
    · rfl
    · split <;> rfl
  obtain ⟨h1, h2, h3, h4, h5⟩ := s.loaded_iff.mp h
  refine (State.loaded_iff _).mpr ⟨?_, ?_, ?_, ?_, h5.clock⟩
  all_goals show _ ; rw [hst]; assumption

/-- A unit that keeps no peers is lawful for every station number. -/
theorem Membership.Lawful.setMe {m : Membership} {me : Nat} (h : m.Lawful me) (hc : m.station.clearsPeers = true) (me' : Nat) :
    m.Lawful me' := by
  obtain ⟨-, -, h3, h4, h5, h6, h7, h8, h9, h10, h11, h12⟩ := h
  obtain ⟨hp, hh⟩ := h3 hc
  exact ⟨by rw [hp]; exact getD_replicate_self .., by simp [hh], h3, h4, h5, h6, h7, h8, h9, h10, h11, h12⟩

theorem Effect.keepsStations {s t : State} (he : Effect s t) (h : s.Loaded ∧ s.membership.Lawful s.me) :
    t.Loaded ∧ t.membership.Lawful t.me := by
  have hreach (c : Settings) (p v : Nat) : s.keepsStation (s.reach c p v) :=
    State.keepsStation_of_frame (s.reach_frame c p v) (by decide)
  have hadvance (c : Settings) (v : Nat) : s.keepsStation (s.advanceTo c v) :=
    State.keepsStation_of_frame (s.advanceTo_frame c v) (by decide)
  have hsample (c : Settings) (kind : WindowKind) (i : Nat) : s.keepsStation (s.toSample c kind i) :=
    State.keepsStation_of_frame (s.toSample_frame c kind i) (by decide)
  have htimer (t : FrameTimer) : s.keepsStation { s with timer := t } :=
    State.keepsStation_of_frame (s.setTimer_frame t) (by decide)
  cases he with
  | stay => exact h
  | reset => exact ⟨State.Loaded.reset s, .of_cleared _ rfl rfl rfl rfl rfl rfl (Nat.succ_pos _) (fun _ _ => rfl) ⟨nofun, nofun⟩⟩
  | beginLoad straps hr =>
    have hst : s.station = .loading := (h.1.of_open (by rw [h.1.2.2.2.1 hr]; rfl)).2
    exact ⟨h.1.beginLoad hr straps, h.2.setMe (by rw [show s.membership.station = _ from hst]; rfl) _⟩
  | granule bytes hb => exact ⟨h.1.readGranule hb bytes, h.2⟩
  | load a b hs =>
    obtain ⟨-, hl, -⟩ := h.1.of_loadSucceeds hs
    refine ⟨h.1.completeLoad hs a b, ?_⟩
    rw [State.completeLoad_of_loading hl]
    exact h.2.toListening (by rw [show s.membership.station = _ from hl]; decide)
  | failLoad why hf =>
    obtain ⟨-, hl⟩ := h.1.of_open (h.1.of_loadFailure hf)
    exact ⟨h.1.failLoad hf, h.2.toLoadFailed hl⟩
  | mark | selfStart => exact (s.keepsStation_takeMark _ _ _ _).laws h
  | riseStart => exact (State.keepsStation_trans (htimer _) (State.keepsStation_takeMark _ _ _ _ _)).laws h
  | expire => exact (State.keepsStation_trans (hreach _ _ _) (State.keepsStation_takeMark _ _ _ _ _)).laws h
  | fall | passOver | rise => exact (htimer _).laws h
  | hold => exact (State.keepsStation_trans (hreach _ _ _) (State.keepsStation_of_frame (State.setTimer_frame _ _) (by decide))).laws h
  | pullEnd => exact (State.keepsStation_of_frame (s.advanceTo_endPull_frame _ _) (by decide)).laws h
  | busFault c => exact (s.keepsStation_busFault c).laws h
  | silence c n => exact (State.keepsStation_of_frame (s.elapse_frame c n) (by decide)).laws h
  | openPeer c kind place v k =>
    exact (State.keepsStation_trans (hreach _ _ _) (State.keepsStation_of_frame (State.openWindow_frame _ kind k) (by decide))).laws h
  | openOwnClaim c => exact (State.keepsStation_trans (hreach _ _ _) (State.keepsStation_openOwnClaim _ c)).laws h
  | openOwnDigest c place v k =>
    exact (State.keepsStation_trans (State.keepsStation_trans (hreach _ _ _)
      (State.keepsStation_of_frame (State.openWindow_frame _ .digest k) (by decide)))
      (State.keepsStation_of_frame (State.startLeadIn_frame _ _) (by decide))).laws h
  | leadInEnd c v tx =>
    exact (State.keepsStation_trans (hadvance _ _) (State.keepsStation_of_frame (State.setTx_frame _ tx) (by decide))).laws h
  | sent c kind i tx =>
    exact (State.keepsStation_trans (hsample _ _ _) (State.keepsStation_of_frame (State.setTx_frame _ tx) (by decide))).laws h
  | collide c kind i => exact (State.keepsStation_of_frame (s.collide_frame c kind i) (by decide)).laws h
  | settleOwn =>
    exact (State.keepsStation_trans (hadvance _ _) (State.keepsStation_of_frame (State.settle_frame _ _ _ _) (by decide))).laws h
  | settlePeer c kind k line v _ _ hk =>
    have hset := State.keepsStation_trans (hadvance c v) (State.keepsStation_of_frame
      (State.settle_frame _ kind k ((s.advanceTo c v).settleRecord c kind k line)) (by decide))
    exact (State.keepsStation_trans hset (State.keepsStation_handRecord _ kind (by rw [hset.me]; exact hk) _)).laws h
  | close c => exact (State.keepsStation_trans (hreach _ _ _) (State.keepsStation_closeClaims _ c)).laws h
  | allocate c => exact (State.keepsStation_of_frame (s.completeAllocation_frame c) (by decide)).laws h
  | vote c own =>
    exact (State.keepsStation_trans (hreach _ _ _) (State.keepsStation_of_frame (State.vote_frame _ c own) (by decide))).laws h
  | noVote => exact (hreach _ _ _).laws h
  | slotStart c k =>
    exact (State.keepsStation_trans (hreach _ _ _) (State.keepsStation_of_frame (State.startSlot_frame _ c k) (by decide))).laws h
  | slotEnd c k =>
    exact (State.keepsStation_trans (hreach _ _ _)
      (State.keepsStation_of_frame (State.engineSlotEnd_onlyChanges _ c k) (by decide))).laws h
  | patternEdge c r e => exact (State.keepsStation_of_frame (s.edgeTime_playEdges_frame c r _ _) (by decide)).laws h
  | samples => exact (State.keepsStation_of_frame (s.setDemand_frame _) (by decide)).laws h
  | arrive c input lows highs cls =>
    exact (State.keepsStation_trans (State.keepsStation_of_frame (s.setDemand_frame _) (by decide))
      (State.keepsStation_of_frame (State.arrive_frame (s.setFilter input _) cls) (by decide))).laws h
  | port p => exact (State.keepsStation_of_frame (s.setPort_frame p) (by decide)).laws h
  | endTransaction => exact s.keepsStation_endTransaction.laws h
  | code code => exact (State.keepsStation_of_frame (s.completeCode_frame code) (by decide)).laws h

theorem StepEffect.keepsStations {s t : State} (he : StepEffect s t) (h : s.Loaded ∧ s.membership.Lawful s.me) :
    t.Loaded ∧ t.membership.Lawful t.me := by
  cases he with
  | command _ he => exact he.keepsStations h
  | clock c => exact (State.keepsStation_of_frame (s.clock_frame c) (by decide)).laws h
  | bootClock => exact ⟨h.1.bootClock, h.2⟩

end Sys2Proof.Machine

namespace Sys2Proof.Proofs

open Sys2Proof.Machine

/-- Settles O57: each reaction moves the station between states in which it operates and keeps the Membership Unit's law; the load
alone brings it there, or to LOAD_FAILED. -/
theorem stepKeepsStations : Obligations.StepKeepsStations := by
  unfold Obligations.StepKeepsStations
  rintro s t ⟨-, hl, -, hm, -⟩ h
  have hQ := step_keeps (P := fun s => s.Loaded ∧ s.membership.Lawful s.me) (Q := fun s => s.Loaded ∧ s.membership.Lawful s.me)
    (fun _ _ h => h) (fun _ _ h => h) (fun _ _ h he => he.keepsStations h) ⟨hl, s.membered_iff.mp hm⟩ h
  exact hQ.imp_right t.membered_iff.mpr

end Sys2Proof.Proofs
end

section
/-! The schedule's law (O59, first part): a station without its digest has nothing scheduled; what leaves the queue alone or cancels it;
and the events that build, judge and run the schedule. -/

namespace Sys2Proof.Machine

/-! ### The law, with names -/

/-- What R68, R85, R87, R95, R102, R107, R117, R118, R120 and R161 say of the frame's schedule under a configuration. -/
structure State.Plans (s : State) (c : Settings) : Prop where
  slots : s.alloc.table.length = c.slots
  channels : ∀ slot ∈ s.alloc.table, slot.length = c.channels
  status : s.alloc.status ≠ .none → c.placeClaimClose < s.timer.emitted
  building : s.alloc.status = .building → s.station = .member
  digest : s.agree.ownDigest.isSome = true → s.station = .member ∧ s.alloc.status = .complete
  verdict : s.agree.verdict ≠ .none → s.agree.ownDigest.isSome = true ∧ c.placeDigestClose < s.timer.emitted
  entries : s.demand.entries ≠ [] → s.station = .member
  claims : s.demand.claimRecord ≠ [] → s.station = .member
  exposures : s.demand.exposures ≠ [] → s.agree.verdict = .expose
  bound : ∀ e ∈ s.demand.entries, e.bound ≠ none → s.agree.verdict = .expose
  filters : s.demand.trga.run < c.divider ∧ s.demand.trgb.run < c.divider
  loaded : s.engine.mode ≠ .unloaded
  idle : s.engine.mode = .idle → s.engine.levels = c.idleMask
  running : ∀ r, s.engine.mode = .running r → s.agree.verdict = .expose ∧ s.timer.mode = .running ∧ r.slot < c.slots ∧
    c.placeSlotStart r.slot < s.timer.emitted

theorem State.scheduled_iff_of_some {s : State} {c : Settings} (h : s.cfg = some c) : s.Scheduled ↔ s.Plans c := by
  simp only [State.Scheduled, h]
  constructor
  · rintro ⟨h1, h2, h3, h4, h5, h6, h7, h8, h9, h10, h11, h12⟩
    refine ⟨h1, h2, h3, h4, h5, h6, h7, h8, h9, h10, h11, fun hm => ?_, fun hm => ?_, fun r hm => ?_⟩
    all_goals rw [hm] at h12; exact h12
  · rintro ⟨h1, h2, h3, h4, h5, h6, h7, h8, h9, h10, h11, h12, h13, h14⟩
    refine ⟨h1, h2, h3, h4, h5, h6, h7, h8, h9, h10, h11, ?_⟩
    split
    · exact h12 ‹_›
    · exact h13 ‹_›
    · exact h14 _ ‹_›

theorem State.scheduled_iff_of_none {s : State} (h : s.cfg = none) : s.Scheduled ↔
    s.alloc = Allocator.reset ∧ s.agree.verdict = .none ∧ s.agree.ownDigest = none ∧ s.demand.entries = [] ∧
    s.demand.claimRecord = [] ∧ s.demand.exposures = [] ∧ s.engine.mode = .unloaded ∧
    s.demand.trga = { high := false, run := 0 } ∧ s.demand.trgb = { high := false, run := 0 } := by
  simp only [State.Scheduled, h]

theorem State.Scheduled.plans {s : State} {c : Settings} (h : s.Scheduled) (hc : s.cfg = some c) : s.Plans c :=
  (State.scheduled_iff_of_some hc).mp h

theorem State.Plans.scheduled {s : State} {c : Settings} (h : s.Plans c) (hc : s.cfg = some c) : s.Scheduled :=
  (State.scheduled_iff_of_some hc).mpr h

/-! ### A station without its digest -/

/-- Nothing is scheduled: no digest, no verdict, nothing bound, the engine at rest. -/
structure State.Quiet (s : State) (c : Settings) : Prop where
  digest : s.agree.ownDigest = none
  verdict : s.agree.verdict = .none
  exposures : s.demand.exposures = []
  unbound : ∀ e ∈ s.demand.entries, e.bound = none
  entries : s.demand.entries ≠ [] → s.station = .member
  claims : s.demand.claimRecord ≠ [] → s.station = .member
  filters : s.demand.trga.run < c.divider ∧ s.demand.trgb.run < c.divider
  idle : s.engine.mode = .idle
  levels : s.engine.levels = c.idleMask

/-- Without the own digest there is no verdict, and without a verdict nothing is scheduled. -/
theorem State.Plans.quiet {s : State} {c : Settings} (h : s.Plans c) (hd : s.agree.ownDigest = none) : s.Quiet c := by
  have hv : s.agree.verdict = .none := by
    by_contra hv
    have := (h.verdict hv).1
    rw [hd] at this; cases this
  have hne {P : Prop} (hp : P → s.agree.verdict = .expose) : ¬ P := fun h => by rw [hv] at hp; cases hp h
  have hidle : s.engine.mode = .idle := by
    cases hm : s.engine.mode with
    | unloaded => exact absurd hm h.loaded
    | idle => rfl
    | running r => exact absurd hm (hne fun hm => (h.running r hm).1)
  exact ⟨hd, hv, not_not.mp (hne h.exposures), fun e he => not_not.mp (hne (h.bound e he)), h.entries, h.claims, h.filters, hidle,
    h.idle hidle⟩

theorem State.Plans.quiet_of_ne_member {s : State} {c : Settings} (h : s.Plans c) (hm : s.station ≠ .member) : s.Quiet c :=
  h.quiet (Option.not_isSome_iff_eq_none.mp fun hd => hm (h.digest hd).1)

/-- Up to claim phase close nothing is scheduled, and the table is not begun. -/
theorem State.Plans.quiet_of_emitted {s : State} {c : Settings} (h : s.Plans c) (he : s.timer.emitted ≤ c.placeClaimClose) :
    s.Quiet c ∧ s.alloc.status = .none := by
  have hs : s.alloc.status = .none := by
    by_contra hs
    have := h.status hs
    omega
  refine ⟨h.quiet (Option.not_isSome_iff_eq_none.mp fun hd => ?_), hs⟩
  have := (h.digest hd).2
  rw [hs] at this; cases this

/-- A station with nothing scheduled keeps the law as far as its table does. -/
theorem State.Quiet.plans {s : State} {c : Settings} (h : s.Quiet c) (hl : s.alloc.table.length = c.slots)
    (hch : ∀ slot ∈ s.alloc.table, slot.length = c.channels)
    (hs : s.alloc.status ≠ .none → c.placeClaimClose < s.timer.emitted) (hb : s.alloc.status = .building → s.station = .member) :
    s.Plans c := by
  obtain ⟨h1, h2, h3, h4, h5, h6, h7, h8, h9⟩ := h
  refine ⟨hl, hch, hs, hb, fun h => ?_, fun h => absurd h2 h, h5, h6, fun h => absurd h3 h, fun e he h => absurd (h4 e he) h, h7,
    by rw [h8]; nofun, fun _ => h9, fun r h => by rw [h8] at h; cases h⟩
  rw [h1] at h; cases h

theorem emptyTable_length (slots channels : Nat) : (emptyTable slots channels).length = slots := List.length_replicate ..

theorem length_of_mem_emptyTable {slots channels : Nat} : ∀ slot ∈ emptyTable slots channels, slot.length = channels := by
  intro slot h
  obtain ⟨-, rfl⟩ := List.mem_replicate.mp h
  exact List.length_replicate ..

theorem State.Quiet.plans_of_cleared {s : State} {c : Settings} (h : s.Quiet c) (ha : s.alloc = Allocator.cleared c) :
    s.Plans c :=
  h.plans (by rw [ha]; exact emptyTable_length ..) (by rw [ha]; exact length_of_mem_emptyTable)
    (fun hs => by rw [ha] at hs; exact absurd rfl hs) (fun hs => by rw [ha] at hs; cases hs)

/-! ### What does not schedule -/

/-- The law reads no more than this. -/
theorem State.Plans.congr {s t : State} {c : Settings} (h : s.Plans c) (halloc : t.alloc = s.alloc)
    (hagree : t.agree.ownDigest = s.agree.ownDigest ∧ t.agree.verdict = s.agree.verdict) (hdemand : t.demand = s.demand)
    (hengine : s.engineKept t) (hs : t.station = s.station) (hmode : t.timer.mode = s.timer.mode)
    (he : s.timer.emitted ≤ t.timer.emitted) : t.Plans c := by
  obtain ⟨h1, h2, h3, h4, h5, h6, h7, h8, h9, h10, h11, h12, h13, h14⟩ := h
  obtain ⟨hd, hv⟩ := hagree
  obtain ⟨hem, hel⟩ := hengine
  rw [← halloc] at h1 h2 h3 h4 h5
  rw [← hd] at h5 h6
  rw [← hv] at h6 h9 h10 h14
  rw [← hs] at h4 h5 h7 h8
  rw [← hdemand] at h7 h8 h9 h10 h11
  rw [← hem] at h12 h13 h14
  rw [← hel] at h13
  rw [← hmode] at h14
  exact ⟨h1, h2, fun h => by have := h3 h; omega, h4, h5, fun h => ⟨(h6 h).1, by have := (h6 h).2; omega⟩, h7, h8, h9, h10, h11, h12,
    h13, fun r h => by obtain ⟨a, b, d, e⟩ := h14 r h; exact ⟨a, b, d, by omega⟩⟩

/-- The blocks from which the schedule's law is not read. -/
def restBlocks : List Block := [.bus, .events, .counters, .port, .loader, .draws, .pending]

theorem State.Scheduled.of_frame {s t : State} {l : List Block} (h : s.Scheduled) (hf : s.onlyChanges t l)
    (hl : ∀ b ∈ l, b ∈ restBlocks) : t.Scheduled := by
  have hf := State.onlyChanges_mono hf hl
  have hcfg : t.cfg = s.cfg := hf .config (by decide)
  have halloc : t.alloc = s.alloc := hf .alloc (by decide)
  have hagree : t.agree = s.agree := hf .agree (by decide)
  have hdemand : t.demand = s.demand := hf .demand (by decide)
  have hengine : t.engine = s.engine := hf .engine (by decide)
  have htimer : t.timer = s.timer := hf .timer (by decide)
  have hmem : t.membership = s.membership := hf .membership (by decide)
  simpa only [State.Scheduled, State.station, hcfg, halloc, hagree, hdemand, hengine, htimer, hmem] using h

/-- Time that passes, and a phase event that is emitted, keep the law. -/
theorem State.Plans.reach {s : State} {c : Settings} (h : s.Plans c) {p : Nat} (ha : s.awaits c p) (v : Nat) :
    (s.reach c p v).Plans c :=
  h.congr rfl ⟨rfl, rfl⟩ rfl (s.reach_engineKept c p v) rfl rfl (Nat.le_succ_of_le ha.2.2.1)

theorem State.Plans.elapse {s : State} {c : Settings} (h : s.Plans c) (n : Nat) : (s.elapse c n).Plans c :=
  h.congr rfl ⟨rfl, rfl⟩ rfl ⟨s.engine.elapse_mode n, s.engine.elapse_levels n⟩ rfl rfl (Nat.le_refl _)

theorem State.advanceClock_emitted (s : State) (c : Settings) (v clocks : Nat) :
    (s.advanceClock c v clocks).timer.mode = s.timer.mode ∧ (s.advanceClock c v clocks).timer.emitted = s.timer.emitted := by
  unfold State.advanceClock
  dsimp only
  split <;> exact ⟨rfl, rfl⟩

theorem State.Plans.advanceClock {s : State} {c : Settings} (h : s.Plans c) (v clocks : Nat) : (s.advanceClock c v clocks).Plans c := by
  have hf := s.advanceClock_frame c v clocks
  have hagree : (s.advanceClock c v clocks).agree = s.agree := hf .agree (by decide)
  obtain ⟨hm, he⟩ := s.advanceClock_emitted c v clocks
  exact h.congr (hf .alloc (by decide)) ⟨by rw [hagree], by rw [hagree]⟩ (hf .demand (by decide))
    (s.advanceClock_engineKept c v clocks) (congrArg Membership.station (hf .membership (by decide))) hm he.ge

theorem State.Plans.clock {s : State} {c : Settings} (h : s.Plans c) : (s.clock c).Plans c := by
  unfold State.clock
  split
  · exact h
  · split
    · exact h.congr rfl ⟨rfl, rfl⟩ rfl ⟨s.engine.elapse_mode 1, s.engine.elapse_levels 1⟩ rfl rfl (Nat.le_refl _)
    · exact h.elapse 1

/-! ### What leaves the queue alone or cancels it -/

/-- The queue is empty, with its trigger filters as they were, and digest and verdict are gone (R85, R113). -/
def State.cancels (s t : State) : Prop :=
  t.demand.entries = [] ∧ t.demand.claimRecord = [] ∧ t.demand.exposures = [] ∧ t.demand.trga = s.demand.trga ∧
  t.demand.trgb = s.demand.trgb ∧ t.agree.ownDigest = none ∧ t.agree.verdict = .none

/-- A reaction of the Membership Unit leaves the queue alone and a MEMBER in the rig, or cancels the queue. -/
def State.keepsQueue (s t : State) : Prop :=
  s.onlyChanges t closeBlocks ∧ s.keepsTime t ∧
  ((t.demand = s.demand ∧ t.agree = s.agree ∧ (s.station = .member → t.station = .member)) ∨ s.cancels t)

theorem State.keepsQueue_of_frame {s t : State} {l : List Block} (h : s.onlyChanges t l)
    (hl : ∀ b ∈ l, b ∈ [.timer, .membership, .events, .counters, .draws]) (ht : s.keepsTime t)
    (hm : s.station = .member → t.station = .member) : s.keepsQueue t := by
  have h := State.onlyChanges_mono h hl
  exact ⟨State.onlyChanges_mono h (by decide), ht, .inl ⟨h .demand (by decide), h .agree (by decide), hm⟩⟩

theorem State.keepsQueue_refl (s : State) : s.keepsQueue s :=
  State.keepsQueue_of_frame (s.onlyChanges_refl []) (by decide) s.keepsTime_refl id

theorem State.keepsQueue_trans {s t u : State} (h : s.keepsQueue t) (h' : t.keepsQueue u) : s.keepsQueue u := by
  obtain ⟨hf, ht, hq⟩ := h
  obtain ⟨hf', ht', hq'⟩ := h'
  refine ⟨State.onlyChanges_trans hf hf', State.keepsTime_trans ht ht', ?_⟩
  rcases hq' with ⟨hd', ha', hm'⟩ | hc'
  · rcases hq with ⟨hd, ha, hm⟩ | hc
    · exact .inl ⟨hd'.trans hd, ha'.trans ha, fun h => hm' (hm h)⟩
    · exact .inr (by rw [State.cancels, hd', ha']; exact hc)
  · obtain ⟨h1, h2, h3, h4, h5, h6, h7⟩ := hc'
    refine .inr ⟨h1, h2, h3, ?_, ?_, h6, h7⟩
    · rcases hq with ⟨hd, -⟩ | ⟨-, -, -, hg, -⟩
      · rw [h4, hd]
      · rw [h4, hg]
    · rcases hq with ⟨hd, -⟩ | ⟨-, -, -, -, hg, -⟩
      · rw [h5, hd]
      · rw [h5, hg]

theorem State.abortItem_filters (s : State) :
    s.abortItem.demand.trga = s.demand.trga ∧ s.abortItem.demand.trgb = s.demand.trgb := by
  unfold State.abortItem
  split <;> exact ⟨rfl, rfl⟩

theorem State.exitMember_cancels {s : State} (h : s.station = .member) : s.cancels s.exitMember := by
  obtain ⟨ha, hb⟩ := s.abortItem_filters
  rw [State.exitMember_eq h]
  exact ⟨rfl, rfl, rfl, ha, hb, rfl, rfl⟩

/-- A reaction that exits MEMBER and then changes timer and membership alone. -/
theorem State.keepsQueue_of_exit {s t : State} (hf : s.onlyChanges t closeBlocks) (ht : s.keepsTime t)
    (hd : t.demand = s.exitMember.demand) (ha : t.agree = s.exitMember.agree) : s.keepsQueue t := by
  refine ⟨hf, ht, ?_⟩
  by_cases hm : s.station = .member
  · refine .inr ?_
    rw [State.cancels, hd, ha]
    exact State.exitMember_cancels hm
  · rw [s.exitMember_of_ne hm] at hd ha
    exact .inl ⟨hd, ha, fun h => absurd h hm⟩

theorem State.keepsQueue_enterListening (s : State) : s.keepsQueue s.enterListening :=
  State.keepsQueue_of_exit (State.onlyChanges_mono s.enterListening_frame (by decide)) s.keepsTime_enterListening rfl rfl

theorem State.keepsQueue_enterIsolated (s : State) (why : IsolationReason) : s.keepsQueue (s.enterIsolated why) := by
  obtain ⟨-, -, hd, ha⟩ := s.enterIsolated_fields why
  exact State.keepsQueue_of_exit (s.enterIsolated_frame why) (s.keepsTime_enterIsolated why) hd ha

theorem State.keepsQueue_enterLeaving {s : State} (h : s.station = .member) : s.keepsQueue s.enterLeaving :=
  State.keepsQueue_of_exit (State.onlyChanges_mono s.enterLeaving_frame (by decide)) (s.keepsTime_enterLeaving h) rfl rfl

theorem State.keepsQueue_enterOffline {s : State} (h : s.station ≠ .member) : s.keepsQueue s.enterOffline :=
  State.keepsQueue_of_frame s.enterOffline_frame (by decide) s.keepsTime_enterOffline fun hm => absurd hm h

theorem State.keepsQueue_setMembership {s : State} {m : Membership} (h : m.station = s.membership.station) :
    s.keepsQueue (s.setMembership m) :=
  State.keepsQueue_of_frame (s.setMembership_frame m) (by decide) (s.keepsTime_setMembership m h)
    fun hm => (show m.station = .member from h.trans hm)

theorem State.keepsQueue_offer (s : State) (r : EventRecord) : s.keepsQueue (s.offer r) :=
  State.keepsQueue_of_frame (s.offer_frame r) (by decide) (State.keepsTime_of_eq rfl Iff.rfl) id

theorem State.keepsQueue_applyReference (s : State) : s.keepsQueue s.applyReference.1 := by
  obtain ⟨hst, -⟩ := s.applyReference_keeps
  refine ⟨s.closeStep_applyReference.1, s.keepsTime_applyReference, .inl ⟨?_, ?_, fun h => hst.trans h⟩⟩
  all_goals rcases s.applyReference_cases with h | ⟨f, h⟩ | ⟨f, r, h⟩ <;> rw [h] <;> rfl

theorem State.keepsQueue_checkDuplicate (s : State) : s.keepsQueue s.checkDuplicate := by
  rcases s.checkDuplicate_cases with ⟨-, h⟩ | ⟨n, -, ⟨-, h⟩ | ⟨-, h⟩⟩ <;> rw [h]
  · exact s.keepsQueue_refl
  · exact State.keepsQueue_setMembership rfl
  · exact State.keepsQueue_trans (State.keepsQueue_setMembership (m := { s.membership with streak := n }) rfl)
      (State.keepsQueue_enterIsolated _ _)

theorem State.keepsQueue_checkConfig (s : State) : s.keepsQueue s.checkConfig := by
  rcases s.checkConfig_cases with h | ⟨-, n, h | h⟩ <;> rw [h]
  · exact s.keepsQueue_refl
  · exact State.keepsQueue_setMembership rfl
  · exact State.keepsQueue_trans (State.keepsQueue_setMembership (m := { s.membership with foreignOnly := n }) rfl)
      (State.keepsQueue_enterIsolated _ _)

theorem State.keepsQueue_checkJoining (s : State) : s.keepsQueue s.checkJoining := by
  have hset (n : Nat) : s.keepsQueue (s.setMembership { s.membership with joiningSent := n }) :=
    State.keepsQueue_setMembership rfl
  rcases s.checkJoining_cases with h | ⟨hj, n, h | ⟨r, h⟩ | ⟨m, h⟩⟩ <;> rw [h]
  · exact s.keepsQueue_refl
  · exact State.keepsQueue_trans (hset n) (State.keepsQueue_of_frame (State.enterMember_frame _) (by decide)
      (State.keepsTime_of_eq rfl (iff_of_false nofun (show ¬ s.station = .listening by rw [hj]; nofun))) fun _ => rfl)
  · exact State.keepsQueue_trans (State.keepsQueue_trans (hset n) (State.keepsQueue_offer _ r))
      (State.keepsQueue_enterListening _)
  · exact State.keepsQueue_setMembership rfl

theorem State.keepsQueue_membershipClose (s : State) : s.keepsQueue s.membershipClose.1 := by
  unfold State.membershipClose
  split
  · have hu : s.keepsQueue s.updatePeers :=
      ⟨s.updatePeers_frame, State.keepsTime_of_eq rfl Iff.rfl, .inl ⟨rfl, rfl, id⟩⟩
    exact State.keepsQueue_trans hu (State.keepsQueue_trans s.updatePeers.keepsQueue_applyReference
      (State.keepsQueue_trans (State.keepsQueue_checkDuplicate _)
        (State.keepsQueue_trans (State.keepsQueue_checkConfig _) (State.keepsQueue_checkJoining _))))
  · exact s.keepsQueue_refl

theorem State.keepsQueue_faultStation (s : State) : s.keepsQueue s.faultStation := by
  rcases s.faultStation_cases with ⟨h, e⟩ | ⟨h, e⟩ | ⟨h, e⟩ | ⟨h, e⟩ | ⟨h, e⟩ <;> rw [e]
  · exact s.keepsQueue_enterListening
  · exact s.keepsQueue_enterListening
  · exact State.keepsQueue_enterOffline (by rw [h]; decide)
  · exact State.keepsQueue_setMembership rfl
  · exact s.keepsQueue_refl

theorem State.keepsQueue_takeCommand (s : State) (c : PortCommand) : s.keepsQueue (s.takeCommand c).1 := by
  cases c with
  | clearCounters =>
    exact State.keepsQueue_of_frame (s.setCounters_frame _) (by decide) (State.keepsTime_of_eq rfl Iff.rfl) id
  | leave =>
    simp only [State.takeCommand, State.takeLeave]
    split
    · exact State.keepsQueue_setMembership rfl
    · next h => exact State.keepsQueue_enterOffline (by rw [h]; decide)
    · next h => exact State.keepsQueue_enterOffline (by rw [h]; decide)
    · exact s.keepsQueue_refl
  | rejoin =>
    simp only [State.takeCommand, State.takeRejoin]
    split
    · exact s.keepsQueue_enterListening
    · split
      · exact State.keepsQueue_setMembership rfl
      · exact s.keepsQueue_refl
    · exact s.keepsQueue_refl

/-- What a station with nothing scheduled keeps under such a reaction. -/
theorem State.Quiet.of_keepsQueue {s t : State} {c : Settings} (h : s.Quiet c) (hk : s.keepsQueue t) : t.Quiet c := by
  obtain ⟨h1, h2, h3, h4, h5, h6, h7, h8, h9⟩ := h
  obtain ⟨hf, -, hq⟩ := hk
  have hengine : t.engine = s.engine := hf .engine (by decide)
  rcases hq with ⟨hd, ha, hm⟩ | ⟨e1, e2, e3, e4, e5, e6, e7⟩
  · rw [← hd] at h3 h4 h5 h6 h7
    rw [← ha] at h1 h2
    exact ⟨h1, h2, h3, h4, fun h => hm (h5 h), fun h => hm (h6 h), h7, by rw [hengine]; exact h8, by rw [hengine]; exact h9⟩
  · exact ⟨e6, e7, e3, by rw [e1]; nofun, fun h => absurd e1 h, fun h => absurd e2 h, by rw [e4, e5]; exact h7,
      by rw [hengine]; exact h8, by rw [hengine]; exact h9⟩

/-- A command leaves a MEMBER one, with its schedule. -/
theorem State.takeCommand_of_member {s : State} (h : s.station = .member) (c : PortCommand) :
    (s.takeCommand c).1.station = .member ∧ (s.takeCommand c).1.demand = s.demand ∧ (s.takeCommand c).1.agree = s.agree := by
  cases c with
  | clearCounters => exact ⟨h, rfl, rfl⟩
  | leave => simp only [State.takeCommand, State.takeLeave, h, and_true]; exact h
  | rejoin =>
    simp only [State.takeCommand, State.takeRejoin, h]
    split <;> exact ⟨h, rfl, rfl⟩

theorem State.keepsQueue.emitted {s t : State} (h : s.keepsQueue t) :
    t.timer.emitted = s.timer.emitted ∧ t.timer.mode = s.timer.mode := by
  obtain ⟨-, ⟨f, n, ht, -⟩, -⟩ := h
  rw [ht]
  exact ⟨rfl, rfl⟩

/-- A reaction that takes no MEMBER out of the rig keeps the law. -/
theorem State.Plans.of_keepsQueue {s t : State} {c : Settings} (h : s.Plans c) (hk : s.keepsQueue t)
    (hm : s.station = .member → t.station = .member ∧ t.demand = s.demand ∧ t.agree = s.agree) : t.Plans c := by
  have halloc : t.alloc = s.alloc := hk.1 .alloc (by decide)
  have hengine : t.engine = s.engine := hk.1 .engine (by decide)
  obtain ⟨he, hmode⟩ := hk.emitted
  by_cases hs : s.station = .member
  · obtain ⟨hst, hd, ha⟩ := hm hs
    exact h.congr halloc ⟨by rw [ha], by rw [ha]⟩ hd ⟨by rw [hengine], by rw [hengine]⟩ (hst.trans hs.symm) hmode he.ge
  · refine ((h.quiet_of_ne_member hs).of_keepsQueue hk).plans ?_ ?_ ?_ ?_ <;> rw [halloc]
    · exact h.slots
    · exact h.channels
    · rw [he]; exact h.status
    · exact fun hb => absurd (h.building hb) hs

theorem State.Scheduled.endTransaction {s : State} (h : s.Scheduled) : s.endTransaction.Scheduled := by
  have hport (u : State) (p : LocalPort) (hu : u.Scheduled) : ({ u with port := p } : State).Scheduled :=
    hu.of_frame (u.setPort_frame p) (by decide)
  have hcmd (c : PortCommand) : (s.takeCommand c).1.Scheduled := by
    have hk := s.keepsQueue_takeCommand c
    have hcfg : (s.takeCommand c).1.cfg = s.cfg := hk.1 .config (by decide)
    rcases Option.eq_none_or_eq_some s.cfg with hc | ⟨c', hc⟩
    · obtain ⟨h1, h2, h3, h4, h5, h6, h7, h8, h9⟩ := (State.scheduled_iff_of_none hc).mp h
      obtain ⟨hf, -, hq⟩ := hk
      refine (State.scheduled_iff_of_none (hcfg.trans hc)).mpr ?_
      rw [show _ = s.alloc from hf .alloc (by decide), show _ = s.engine from hf .engine (by decide)]
      rcases hq with ⟨hd, ha, -⟩ | ⟨e1, e2, e3, e4, e5, e6, e7⟩
      · rw [hd, ha]
        exact ⟨h1, h2, h3, h4, h5, h6, h7, h8, h9⟩
      · exact ⟨h1, e7, e6, e1, e2, e3, h7, e4.trans h8, e5.trans h9⟩
    · exact ((h.plans hc).of_keepsQueue hk fun hm => State.takeCommand_of_member hm c).scheduled (hcfg.trans hc)
  have hact : s.endAction.Scheduled := by
    unfold State.endAction
    split
    · split
      · split
        · exact h.of_frame (s.setEvents_frame _) (by decide)
        · exact h
      · split
        · exact h.of_frame (s.setEvents_frame _) (by decide)
        · exact h
      · exact hport _ _ (hcmd _)
      · exact h
    · exact h
  exact hport _ _ hact

/-! ### Marks and bus faults -/

/-- Requests have left the queue or changed, and none has come; the trigger filters stand. -/
def DemandQueue.shrinksTo (q q' : DemandQueue) : Prop :=
  (q'.entries ≠ [] → q.entries ≠ []) ∧ q'.trga = q.trga ∧ q'.trgb = q.trgb

theorem DemandQueue.shrinksTo_refl (q : DemandQueue) : q.shrinksTo q := ⟨id, rfl, rfl⟩

theorem DemandQueue.shrinksTo_trans {q q' q'' : DemandQueue} (h : q.shrinksTo q') (h' : q'.shrinksTo q'') : q.shrinksTo q'' := by
  obtain ⟨he, ha, hb⟩ := h
  obtain ⟨he', ha', hb'⟩ := h'
  exact ⟨fun h => he (he' h), ha'.trans ha, hb'.trans hb⟩

theorem DemandQueue.shrinksTo_drop (q : DemandQueue) (it : ExposureItem) : q.shrinksTo (q.drop it) := by
  refine ⟨fun h => ?_, rfl, rfl⟩
  rw [DemandQueue.drop_entries] at h
  split at h
  · rintro h0
    rw [h0] at h
    exact h rfl
  · exact h

theorem State.shrinksTo_abortItem (s : State) : s.demand.shrinksTo s.abortItem.demand := by
  unfold State.abortItem
  split
  · exact s.demand.shrinksTo_drop _
  · exact s.demand.shrinksTo_refl

theorem State.shrinksTo_retire (s : State) (slot channel : Nat) : s.demand.shrinksTo (s.retire slot channel).demand := by
  unfold State.retire
  split
  · exact s.demand.shrinksTo_drop _
  · exact s.demand.shrinksTo_refl

theorem State.shrinksTo_engineMark (s : State) (c : Settings) (cls : MarkClass) : s.demand.shrinksTo (s.engineMark c cls).demand := by
  unfold State.engineMark
  split
  · rw [show _ = s.demand from s.abortEngine_frame c .demand (by decide)]
    exact s.demand.shrinksTo_refl
  · exact State.shrinksTo_retire _ _ _
  · exact s.demand.shrinksTo_refl

theorem State.shrinksTo_demandMark (s : State) (c : Settings) (cls : MarkClass) : s.demand.shrinksTo (s.demandMark c cls).demand := by
  have hage (u : State) : u.demand.shrinksTo (u.ageQueue c).demand := by
    refine ⟨fun h h0 => h ?_, rfl, rfl⟩
    show survivors c u.demand.entries = []
    rw [h0]
    rfl
  rw [State.demandMark_eq]
  split
  · exact DemandQueue.shrinksTo_trans s.shrinksTo_abortItem (hage _)
  · exact hage s

/-- At a mark no request comes, and the engine comes to rest, but for a running exposure that an aligning mark would find. -/
theorem State.afterQueues_rest (s : State) (c : Settings) (cls : MarkClass) (selfStart pulls : Bool) :
    s.demand.shrinksTo (s.afterQueues c cls selfStart pulls).demand ∧
    (((∃ r, s.engine.mode = .running r) → cls ≠ .aligning) → s.engine.mode ≠ .unloaded →
      (s.engine.mode = .idle → s.engine.levels = c.idleMask) →
      (s.afterQueues c cls selfStart pulls).engine.mode = .idle ∧
      (s.afterQueues c cls selfStart pulls).engine.levels = c.idleMask) := by
  unfold State.afterQueues
  extract_lets s0
  have hd : s0.demand = s.demand := by unfold s0; split <;> rfl
  have he : s0.engine = s.engine := by unfold s0; split <;> rfl
  rw [← hd, ← he]
  generalize hu : ({ s0 with timer := s0.timer.mark selfStart pulls (s.lapsing c) } : State) = u
  have hud : u.demand = s0.demand := by rw [← hu]
  have hue : u.engine = s0.engine := by rw [← hu]
  rw [← hud, ← hue]
  refine ⟨DemandQueue.shrinksTo_trans (u.shrinksTo_engineMark c cls) (State.shrinksTo_demandMark _ c cls), fun hcls hun hidle => ?_⟩
  rw [show _ = (u.engineMark c cls).engine from State.demandMark_frame _ c cls .engine (by decide)]
  cases hm : u.engine.mode with
  | unloaded => exact absurd hm hun
  | idle =>
    rw [State.engineMark_of_idle c cls hm]
    exact ⟨hm, hidle hm⟩
  | running r =>
    cases cls with
    | aligning => exact absurd rfl (hcls ⟨r, hm⟩)
    | normal =>
      rw [State.engineMark_of_normal c hm, State.endExposure, show _ = PatternEngine.rest c false from
        State.retire_frame { u with engine := PatternEngine.rest c false } r.slot r.channel .engine (by decide)]
      exact ⟨rfl, rfl⟩
    | runt =>
      rw [State.engineMark_of_runt c hm]
      exact ⟨rfl, rfl⟩

theorem State.Plans.takeMark {s : State} {c : Settings} (h : s.Plans c) {cls : MarkClass}
    (hcls : cls = .aligning → s.timer.mode = .searching) (selfStart pulls : Bool) : (s.takeMark c cls selfStart pulls).Plans c := by
  obtain ⟨hq, hrest⟩ := s.afterQueues_rest c cls selfStart pulls
  obtain ⟨hidle, hlevels⟩ := hrest (fun ⟨r, hr⟩ ha => by
    have hrun := (h.running r hr).2.1
    rw [hcls ha] at hrun; cases hrun) h.loaded h.idle
  obtain ⟨-, -, -, -, -, hdigest, -, -, hverdict, -, -, hexp, hclaim, hbound, -⟩ := s.takeMark_clears c cls selfStart pulls
  obtain ⟨hentries, ha, hb⟩ := hq
  rw [← s.takeMark_demand] at hentries ha hb
  have hengine := s.takeMark_engine c cls selfStart pulls
  refine State.Quiet.plans_of_cleared ⟨hdigest, hverdict, hexp, hbound, fun hne => ?_, fun hne => absurd hclaim hne,
    by rw [ha, hb]; exact h.filters, by rw [hengine]; exact hidle, by rw [hengine]; exact hlevels⟩ (by rw [s.takeMark_eq])
  have hm : s.station = .member := h.entries (hentries hne)
  rw [State.takeMark_station c cls selfStart pulls (by rw [hm]; decide), hm]
  rfl

theorem State.faultStation_ne_member (s : State) : s.faultStation.station ≠ .member := by
  rcases s.faultStation_cases with ⟨h, e⟩ | ⟨h, e⟩ | ⟨h, e⟩ | ⟨h, e⟩ | ⟨h, e⟩ <;> rw [e]
  · exact nofun
  · exact nofun
  · exact nofun
  · show s.station ≠ .member
    rw [h]; decide
  · rcases h with h | h | h | h <;> rw [h] <;> decide

/-- A station that a reaction has taken out of the rig, or that was never in it, has nothing scheduled but what its engine runs. -/
theorem State.Plans.cancels_of_ne_member {s t : State} {c : Settings} (h : s.Plans c) (hk : s.keepsQueue t)
    (hm : t.station ≠ .member) : s.cancels t := by
  obtain ⟨-, -, hq⟩ := hk
  rcases hq with ⟨hd, ha, hst⟩ | hc
  · obtain ⟨h1, h2, h3, -, h5, h6, -⟩ := h.quiet_of_ne_member fun hs => hm (hst hs)
    rw [State.cancels, hd, ha]
    exact ⟨not_not.mp fun hn => hm (hst (h5 hn)), not_not.mp fun hn => hm (hst (h6 hn)), h3, rfl, rfl, h1, h2⟩
  · exact hc

theorem State.Plans.faulted {s : State} {c : Settings} (h : s.Plans c) : (s.faulted c).Plans c :=
  (h.elapse (65 - s.timer.markLow)).congr rfl ⟨rfl, rfl⟩ rfl ⟨rfl, rfl⟩ rfl rfl (Nat.le_refl _)

theorem State.Plans.busFault {s : State} {c : Settings} (h : s.Plans c) :
    ((s.elapse c (65 - s.timer.markLow)).takeBusFault c).Plans c := by
  have hu := h.faulted
  have hk := (s.faulted c).keepsQueue_faultStation
  obtain ⟨e1, e2, e3, e4, e5, e6, e7⟩ := hu.cancels_of_ne_member hk (State.faultStation_ne_member _)
  have hengine : (s.faulted c).faultStation.engine = (s.faulted c).engine := hk.1 .engine (by decide)
  have hrest : ((s.faulted c).faultStation.abortEngine c).engine.mode = .idle ∧
      ((s.faulted c).faultStation.abortEngine c).engine.levels = c.idleMask := by
    unfold State.abortEngine
    split
    · exact ⟨rfl, rfl⟩
    · next hn =>
      rw [hengine] at hn ⊢
      have hidle : (s.faulted c).engine.mode = .idle := by
        cases hm : (s.faulted c).engine.mode with
        | unloaded => exact absurd hm hu.loaded
        | idle => rfl
        | running r => exact absurd hm (hn r)
      exact ⟨hidle, hu.idle hidle⟩
  rw [s.takeBusFault_eq]
  exact State.Quiet.plans_of_cleared ⟨e6, e7, e3, fun e he => absurd (show e ∈ ([] : List DemandEntry) from e1 ▸ he) (by simp),
    fun hn => absurd e1 hn, fun hn => absurd e2 hn,
    show (s.faulted c).faultStation.demand.trga.run < _ ∧ (s.faulted c).faultStation.demand.trgb.run < _ by
      rw [e4, e5]; exact hu.filters,
    hrest.1, hrest.2⟩ rfl

/-! ### The events that build, judge and run the schedule -/

theorem State.Quiet.ownWindowReaction {s : State} {c : Settings} (h : s.Quiet c) : (s.ownWindowReaction c).Quiet c := by
  obtain ⟨h1, h2, h3, h4, h5, -, h7, h8, h9⟩ := id h
  unfold State.ownWindowReaction
  split
  · next hm =>
    split
    · exact h.of_keepsQueue (State.keepsQueue_enterLeaving hm)
    · exact ⟨h1, h2, h3, h4, h5, fun _ => hm, h7, h8, h9⟩
  · exact ⟨h1, h2, h3, h4, h5, fun hn => absurd rfl hn, h7, h8, h9⟩

theorem State.Plans.openOwnClaim {s : State} {c : Settings} (h : s.Plans c) (he : s.timer.emitted ≤ c.placeClaimClose) :
    (s.openOwnClaim c).Plans c := by
  obtain ⟨hq, hs⟩ := h.quiet_of_emitted he
  obtain ⟨q1, q2, q3, q4, q5, q6, q7, q8, q9⟩ := hq
  obtain ⟨h1, h2, h3, h4, h5, h6, h7, h8, h9⟩ := State.Quiet.ownWindowReaction (s := s.openWindow .claim s.me)
    ⟨q1, q2, q3, q4, q5, q6, q7, q8, q9⟩
  have halloc : (s.openOwnClaim c).alloc = s.alloc := s.openOwnClaim_frame c .alloc (by decide)
  refine State.Quiet.plans ?_ (by rw [halloc]; exact h.slots) (by rw [halloc]; exact h.channels)
    (fun hn => by rw [halloc] at hn; exact absurd hs hn) (fun hb => by rw [halloc, hs] at hb; cases hb)
  unfold State.openOwnClaim
  dsimp only
  split <;> exact ⟨h1, h2, h3, h4, h5, h6, h7, h8, h9⟩

theorem State.Plans.closeClaims {s : State} {c : Settings} (h : s.Quiet c) (he : c.placeClaimClose < s.timer.emitted) :
    (s.closeClaims c).Plans c := by
  have hk := s.keepsQueue_membershipClose
  obtain ⟨hem, -⟩ := hk.emitted
  obtain ⟨h1, h2, h3, h4, h5, h6, h7, h8, h9⟩ := h.of_keepsQueue hk
  refine State.Quiet.plans (s := s.closeClaims c) ⟨h1, h2, h3, h4, h5, h6, h7, h8, h9⟩ (emptyTable_length ..)
    length_of_mem_emptyTable (fun _ => (show c.placeClaimClose < s.membershipClose.1.timer.emitted by rw [hem]; exact he)) ?_
  by_cases hm : s.membershipClose.1.station = .member
  · exact fun _ => hm
  · rw [(s.closeClaims_of_not_member c hm).1]
    nofun

/-- Every row of a table keeps its length. -/
def Table.sized (t : Table) (slots channels : Nat) : Prop := t.length = slots ∧ ∀ slot ∈ t, slot.length = channels

theorem Table.sized_fill {t : Table} {slots channels : Nat} (h : t.sized slots channels) (k ch : Nat) (x : Cell) :
    (t.fill k ch x).sized slots channels := by
  obtain ⟨hl, hs⟩ := h
  refine ⟨(Table.fill_length ..).trans hl, fun slot hslot => ?_⟩
  unfold Table.fill at hslot
  rcases Nat.lt_or_ge k t.length with hk | hk
  · rcases List.mem_or_eq_of_mem_set hslot with hm | rfl
    · exact hs slot hm
    · rw [List.length_set, List.getD_eq_getElem?_getD, List.getElem?_eq_getElem hk]
      exact hs _ (List.getElem_mem hk)
  · rw [List.set_eq_of_length_le hk] at hslot
    exact hs slot hslot

theorem writeExposure_sized {t : Table} {slots channels : Nat} (h : t.sized slots channels) (e : ClaimEntry) (k ch : Nat) :
    (writeExposure t e k ch).sized slots channels := by
  unfold writeExposure
  dsimp only
  split
  · exact Table.sized_fill (Table.sized_fill h _ _ _) _ _ _
  · exact Table.sized_fill h _ _ _

theorem placeEntry_sized {list : List ClaimEntry} {slots channels : Nat} (attempts : Nat) {t : Table} (e : ClaimEntry)
    (h : t.sized slots channels) : (placeEntry list slots channels attempts t e).1.sized slots channels := by
  induction attempts generalizing t e with
  | zero => exact h
  | succ n ih =>
    unfold placeEntry
    split
    · exact ih _ (writeExposure_sized h _ _ _)
    · exact h

theorem placeAll_sized {list : List ClaimEntry} {slots channels : Nat} (l : List ClaimEntry) {t : Table}
    (h : t.sized slots channels) : (placeAll list slots channels t l).1.sized slots channels := by
  induction l generalizing t with
  | nil => exact h
  | cons e l ih => exact ih (placeEntry_sized e.count e h)

theorem allocate_sized (slots channels : Nat) (list : List ClaimEntry) : (allocate slots channels list).1.sized slots channels :=
  placeAll_sized list ⟨emptyTable_length .., length_of_mem_emptyTable⟩

theorem State.Plans.completeAllocation {s : State} {c : Settings} (h : s.Plans c) (hb : s.alloc.status = .building) :
    (s.completeAllocation c).Plans c := by
  obtain ⟨hl, hch⟩ := allocate_sized c.slots c.channels s.alloc.claimList
  have hm := h.building hb
  obtain ⟨-, -, h3, -, -, h6, h7, h8, h9, h10, h11, h12, h13, h14⟩ := h
  unfold State.completeAllocation
  extract_lets placed tallies s1 s2
  rw [if_pos hm]
  exact ⟨hl, hch, fun _ => h3 (by rw [hb]; decide), nofun, fun _ => ⟨hm, rfl⟩, fun hv => ⟨rfl, (h6 hv).2⟩, h7, h8, h9, h10, h11,
    h12, h13, h14⟩

theorem foldl_bindCell_filters (c : Settings) (l : List (Nat × Nat × Nat)) (q : DemandQueue) :
    (l.foldl (fun q p => bindCell c q p.1 p.2.1 p.2.2) q).trga = q.trga ∧
    (l.foldl (fun q p => bindCell c q p.1 p.2.1 p.2.2) q).trgb = q.trgb := by
  induction l generalizing q with
  | nil => exact ⟨rfl, rfl⟩
  | cons p l ih => exact ih _

/-- The vote of a MEMBER with its digest: EXPOSE binds its requests, and HOLDOFF leaves nothing scheduled. -/
theorem State.Plans.vote {s : State} {c : Settings} {own : Half} (h : s.Plans c) (hq : s.agree.verdict = .none)
    (he : c.placeDigestClose < s.timer.emitted) (hm : s.station = .member) (ho : s.agree.ownDigest = some own) :
    (s.vote c own).Plans c := by
  have hsome : s.agree.ownDigest.isSome = true := by rw [ho]; rfl
  have hne {P : Prop} (hp : P → s.agree.verdict = .expose) : ¬ P := fun h => by rw [hq] at hp; cases hp h
  obtain ⟨h1, h2, h3, h4, h5, -, h7, h8, h9, h10, h11, h12, h13, h14⟩ := h
  unfold State.vote
  extract_lets v a s1
  split
  · next hv =>
    obtain ⟨ha, hb⟩ := foldl_bindCell_filters c (s1.ownPart0 c) s1.demand
    have hv : v = .expose := hv
    exact ⟨h1, h2, h3, h4, h5, fun _ => ⟨hsome, he⟩, fun _ => hm, fun _ => hm, fun _ => hv, fun _ _ _ => hv,
      show (State.demand _).trga.run < _ ∧ (State.demand _).trgb.run < _ by rw [State.bind, ha, hb]; exact h11,
      h12, h13, fun r hr => absurd hr (hne fun hr => (h14 r hr).1)⟩
  · exact ⟨h1, h2, h3, h4, h5, fun _ => ⟨hsome, he⟩, h7, h8, fun hn => absurd hn (hne h9),
      fun e hm hb => absurd hb (hne (h10 e hm)), h11, h12, h13, fun r hr => absurd hr (hne fun hr => (h14 r hr).1)⟩

theorem State.Plans.startSlot {s : State} {c : Settings} {k : Nat} (h : s.Plans c) (hk : k < c.slots)
    (hrun : s.timer.mode = .running) (he : c.placeSlotStart k < s.timer.emitted) : (s.startSlot c k).Plans c := by
  obtain ⟨h1, h2, h3, h4, h5, h6, h7, h8, h9, h10, h11, h12, h13, h14⟩ := h
  have hd : ((s.startSlot c k).demand.exposures ≠ [] → s.demand.exposures ≠ []) ∧
      (s.startSlot c k).demand.entries = s.demand.entries ∧ (s.startSlot c k).demand.claimRecord = s.demand.claimRecord ∧
      (s.startSlot c k).demand.trga = s.demand.trga ∧ (s.startSlot c k).demand.trgb = s.demand.trgb := by
    unfold State.startSlot
    dsimp only
    split
    · exact ⟨fun hn h0 => hn (by rw [DemandQueue.startSlot, h0]; rfl), rfl, rfl, rfl, rfl⟩
    · exact ⟨id, rfl, rfl, rfl, rfl⟩
  have hengine : s.engineSlotStart c k = s.engine ∨ (s.agree.verdict = .expose ∧
      ∃ r, (s.engineSlotStart c k).mode = .running r ∧ r.slot = k) := by
    unfold State.engineSlotStart
    split
    · split
      · exact .inr ⟨‹_›, _, rfl, rfl⟩
      · exact .inl rfl
    · exact .inl rfl
  obtain ⟨hexp, hent, hcl, hfa, hfb⟩ := hd
  refine ⟨h1, h2, h3, h4, h5, h6, by rw [hent]; exact h7, by rw [hcl]; exact h8, fun hn => h9 (hexp hn), by rw [hent]; exact h10,
    by rw [hfa, hfb]; exact h11, ?_, ?_, ?_⟩
  · rcases hengine with e | ⟨-, r, hr, -⟩
    · rw [show (s.startSlot c k).engine = _ from e]; exact h12
    · rw [show (s.startSlot c k).engine.mode = _ from hr]; nofun
  · rcases hengine with e | ⟨-, r, hr, -⟩
    · rw [show (s.startSlot c k).engine = _ from e]; exact h13
    · rw [show (s.startSlot c k).engine.mode = _ from hr]; nofun
  · intro r' hr'
    rcases hengine with e | ⟨hv, r, hr, rfl⟩
    · rw [show (s.startSlot c k).engine = _ from e] at hr'; exact h14 r' hr'
    · rw [show (s.startSlot c r.slot).engine.mode = _ from hr] at hr'
      cases hr'
      exact ⟨hv, hrun, hk, he⟩

theorem DemandQueue.mem_drop_entries {q : DemandQueue} {it : ExposureItem} {e : DemandEntry} (h : e ∈ (q.drop it).entries) :
    e ∈ q.entries := by
  rw [DemandQueue.drop_entries] at h
  split at h
  · exact (List.mem_filter.mp h).1
  · exact h

/-- An item and its entry that leave the queue, and an engine that comes to rest, keep the law. -/
theorem State.Plans.endExposure {s : State} {c : Settings} (h : s.Plans c) (r : RunningPattern) (ended : Bool) :
    (s.endExposure c r ended).Plans c := by
  obtain ⟨h1, h2, h3, h4, h5, h6, h7, h8, h9, h10, h11, -, -, -⟩ := h
  cases hi : s.demand.itemAt r.slot r.channel with
  | none =>
    rw [State.endExposure, State.retire, show DemandQueue.itemAt _ _ _ = _ from hi]
    exact ⟨h1, h2, h3, h4, h5, h6, h7, h8, h9, h10, h11, nofun, fun _ => rfl, nofun⟩
  | some it =>
    rw [State.endExposure_of_some c ended hi]
    refine ⟨h1, h2, h3, h4, h5, h6, fun hn => h7 ?_, h8, fun hn => h9 ?_, fun e he => h10 e (DemandQueue.mem_drop_entries he), h11,
      nofun, fun _ => rfl, nofun⟩
    · exact (s.demand.shrinksTo_drop it).1 hn
    · rintro h0
      exact hn (by show List.filter _ _ = []; rw [h0]; rfl)

theorem State.Plans.engineSlotEnd {s : State} {c : Settings} (h : s.Plans c) (k : Nat) : (s.engineSlotEnd c k).Plans c := by
  unfold State.engineSlotEnd
  split
  · next r hr =>
    split
    · exact h.endExposure r true
    · split
      · obtain ⟨h1, h2, h3, h4, h5, h6, h7, h8, h9, h10, h11, -, -, h14⟩ := h
        exact ⟨h1, h2, h3, h4, h5, h6, h7, h8, h9, h10, h11, nofun, nofun, fun r' hr' => by cases hr'; exact h14 r hr⟩
      · exact h
  · exact h

/-- The edges of a running exposure leave it running in its slot. -/
theorem State.Plans.playEdges {s : State} {c : Settings} {r : RunningPattern} (h : s.Plans c) (hr : s.engine.mode = .running r)
    (offset fine : Nat) : (s.playEdges c r offset fine).Plans c := by
  obtain ⟨h1, h2, h3, h4, h5, h6, h7, h8, h9, h10, h11, -, -, h14⟩ := h
  exact ⟨h1, h2, h3, h4, h5, h6, h7, h8, h9, h10, h11, nofun, nofun, fun r' hr' => by cases hr'; exact h14 r hr⟩

theorem State.Plans.setFilter {s : State} {c : Settings} (h : s.Plans c) (input : TrgInput) {f : TrgFilter} (hf : f.run < c.divider) :
    (s.setFilter input f).Plans c := by
  obtain ⟨h1, h2, h3, h4, h5, h6, h7, h8, h9, h10, ⟨ha, hb⟩, h12, h13, h14⟩ := h
  cases input with
  | trga => exact ⟨h1, h2, h3, h4, h5, h6, h7, h8, h9, h10, ⟨hf, hb⟩, h12, h13, h14⟩
  | trgb => exact ⟨h1, h2, h3, h4, h5, h6, h7, h8, h9, h10, ⟨ha, hf⟩, h12, h13, h14⟩

theorem State.Plans.filterPulse {s : State} {c : Settings} (h : s.Plans c) (input : TrgInput) (lows highs : Nat) :
    (s.setFilter input (filterPulse c.divider (s.demand.filterOf input) lows highs).1).Plans c := by
  have hrun : (s.demand.filterOf input).run < c.divider := by
    obtain ⟨ha, hb⟩ := h.filters
    cases input with
    | trga => exact ha
    | trgb => exact hb
  exact h.setFilter input (TrgFilter.hold_run_lt _ _ _ _ (TrgFilter.hold_run_lt _ _ _ _ hrun))

theorem State.Plans.arrive {s : State} {c : Settings} (h : s.Plans c) (cls : Nat) : (s.arrive cls).Plans c := by
  obtain ⟨h1, h2, h3, h4, h5, h6, h7, h8, h9, h10, h11, h12, h13, h14⟩ := id h
  unfold State.arrive
  split
  · next hm =>
    split
    · refine ⟨h1, h2, h3, h4, h5, h6, fun _ => hm, h8, h9, fun e he hb => ?_, h11, h12, h13, h14⟩
      rcases List.mem_append.mp he with he | he
      · exact h10 e he hb
      · rw [List.mem_singleton.mp he] at hb
        exact absurd rfl hb
    · exact ⟨h1, h2, h3, h4, h5, h6, h7, h8, h9, h10, h11, h12, h13, h14⟩
  · split
    · exact h
    · exact ⟨h1, h2, h3, h4, h5, h6, h7, h8, h9, h10, h11, h12, h13, h14⟩

theorem State.Plans.hold {s : State} {c : Settings} (h : s.Plans c) (hp : s.station.pullsAtExpiry = false) : (s.hold c).Plans c := by
  have hm : s.station ≠ .member := by rintro e; rw [e] at hp; cases hp
  obtain ⟨h1, h2, h3, h4, h5, h6, h7, h8, h9⟩ := h.quiet_of_ne_member hm
  exact State.Quiet.plans ⟨h1, h2, h3, h4, h5, h6, h7, h8, h9⟩ h.slots h.channels h.status h.building

/-- Without a running exposure the mode of the timer does not matter; with one it is RUNNING, which no rise of FRM changes. -/
theorem State.Plans.riseFrm {s : State} {c : Settings} (h : s.Plans c) : s.riseFrm.Plans c := by
  obtain ⟨h1, h2, h3, h4, h5, h6, h7, h8, h9, h10, h11, h12, h13, h14⟩ := h
  refine ⟨h1, h2, h3, h4, h5, h6, h7, h8, h9, h10, h11, h12, h13, fun r hr => ?_⟩
  obtain ⟨hv, hm, hs⟩ := h14 r hr
  exact ⟨hv, by simp [State.riseFrm, hm], hs⟩

theorem State.Scheduled.completeLoad {s : State} (hl : s.Loaded) (h : s.Scheduled) (hs : s.loadSucceeds = true) (a b : Bool) :
    (s.completeLoad a b).Scheduled := by
  obtain ⟨hc, hst, hp, -, -, hq⟩ := hl.of_loadSucceeds hs
  obtain ⟨-, hv, hd, he, hcl, hx, -⟩ := (State.scheduled_iff_of_none hc).mp h
  have hdiv := Settings.inRange_divider (settingsOf_inRange hp hq)
  rw [State.completeLoad_of_loading hst]
  refine State.Plans.scheduled (State.Quiet.plans_of_cleared (c := settingsOf s.loader.granules) ?_ rfl) rfl
  exact ⟨hd, hv, hx, fun e hm => absurd (show e ∈ ([] : List DemandEntry) from he ▸ hm) (by simp), fun hn => absurd he hn,
    fun hn => absurd hcl hn, ⟨hdiv, hdiv⟩, rfl, rfl⟩

theorem State.Plans.handRecord {s : State} {c : Settings} (h : s.Plans c) (kind : WindowKind) (k : Nat) (r : WindowRecord) :
    (s.handRecord kind k r).Plans c := by
  unfold State.handRecord
  split
  · split
    · exact h.congr rfl ⟨rfl, rfl⟩ rfl ⟨rfl, rfl⟩ rfl rfl (Nat.le_refl _)
    · exact h
  · exact h.congr rfl ⟨rfl, rfl⟩ rfl ⟨rfl, rfl⟩ rfl rfl (Nat.le_refl _)
  · exact h

theorem State.Plans.takeNormalMark {s : State} {c : Settings} (h : s.Plans c) (selfStart pulls : Bool) :
    (s.takeMark c .normal selfStart pulls).Plans c := h.takeMark (cls := .normal) nofun selfStart pulls

/-- At a digest phase close that is awaited there is no verdict yet. -/
theorem State.Plans.verdict_of_emitted {s : State} {c : Settings} (h : s.Plans c) (he : s.timer.emitted ≤ c.placeDigestClose) :
    s.agree.verdict = .none := by
  by_contra hv
  have := (h.verdict hv).2
  omega

theorem State.markClass_aligning {s : State} {c : Settings} (h : s.markClass c = .aligning) : s.timer.mode = .searching := by
  unfold State.markClass at h
  split at h
  · assumption
  · split at h <;> cases h
  · cases h

theorem Effect.scheduled {s t : State} (he : Effect s t) (hl : s.Loaded) (h : s.Scheduled) : t.Scheduled := by
  have hrest {u v : State} {c : Settings} {l : List Block} (hu : u.Plans c) (hc : u.cfg = some c) (hf : u.onlyChanges v l)
      (hl : ∀ b ∈ l, b ∈ restBlocks) : v.Scheduled := (hu.scheduled hc).of_frame hf hl
  have htimer (t : FrameTimer) (hm : t.mode = s.timer.mode) (ht : t.emitted = s.timer.emitted) :
      ({ s with timer := t } : State).Scheduled := by
    rcases Option.eq_none_or_eq_some s.cfg with hc | ⟨c, hc⟩
    · exact (State.scheduled_iff_of_none (s := { s with timer := t }) hc).mpr ((State.scheduled_iff_of_none hc).mp h)
    · exact State.Plans.scheduled ((h.plans hc).congr rfl ⟨rfl, rfl⟩ rfl ⟨rfl, rfl⟩ rfl hm ht.ge) hc
  cases he with
  | stay | beginLoad | granule | port => exact h
  | reset => exact (State.scheduled_iff_of_none (s := s.assertReset) rfl).mpr ⟨rfl, rfl, rfl, rfl, rfl, rfl, rfl, rfl, rfl⟩
  | load a b hs => exact .completeLoad hl h hs a b
  | failLoad why hf =>
    obtain ⟨hc, -⟩ := hl.of_open (hl.of_loadFailure hf)
    exact (State.scheduled_iff_of_none (s := s.failLoad why) hc).mpr ((State.scheduled_iff_of_none hc).mp h)
  | mark c hc =>
    exact ((h.plans hc).takeMark State.markClass_aligning _ _).scheduled ((s.takeMark_frame _ _ _ _ .config (by decide)).trans hc)
  | selfStart c hc =>
    exact ((h.plans hc).takeNormalMark _ _).scheduled ((s.takeMark_frame _ _ _ _ .config (by decide)).trans hc)
  | riseStart c hc =>
    exact ((h.plans hc).riseFrm.takeNormalMark _ _).scheduled ((State.takeMark_frame _ _ _ _ _ .config (by decide)).trans hc)
  | expire c ha =>
    exact (((h.plans ha.1).reach ha _).takeNormalMark _ _).scheduled ((State.takeMark_frame _ _ _ _ _ .config (by decide)).trans ha.1)
  | fall | passOver => exact htimer _ rfl rfl
  | rise =>
    rcases Option.eq_none_or_eq_some s.cfg with hc | ⟨c, hc⟩
    · exact (State.scheduled_iff_of_none (s := s.riseFrm) hc).mpr ((State.scheduled_iff_of_none hc).mp h)
    · exact (h.plans hc).riseFrm.scheduled hc
  | hold c ha hp => exact (((h.plans ha.1).reach ha _).hold hp).scheduled ha.1
  | pullEnd c hc =>
    exact State.Plans.scheduled (((h.plans hc).elapse (8 - s.timer.value)).congr rfl ⟨rfl, rfl⟩ rfl ⟨rfl, rfl⟩ rfl rfl
      (Nat.le_refl _)) hc
  | busFault c hc =>
    exact (h.plans hc).busFault.scheduled ((State.takeBusFault_frame _ c .config (by decide)).trans hc)
  | silence c n hc => exact ((h.plans hc).elapse n).scheduled hc
  | openPeer c kind place v k ha => exact hrest ((h.plans ha.1).reach ha v) ha.1 (State.openWindow_frame _ kind k) (by decide)
  | openOwnClaim c ha hk =>
    exact (((h.plans ha.1).reach ha _).openOwnClaim (show s.me + 1 ≤ c.windows from hk)).scheduled
      ((State.openOwnClaim_frame _ c .config (by decide)).trans ha.1)
  | openOwnDigest c place v k ha =>
    exact hrest ((h.plans ha.1).reach ha v) ha.1 (State.onlyChanges_comp (State.openWindow_frame _ .digest k)
      (State.startLeadIn_frame _ .digest) (m := [.bus]) (by decide)) (by decide)
  | leadInEnd c v tx hc => exact hrest ((h.plans hc).elapse _) hc (State.setTx_frame _ tx) (by decide)
  | sent c kind i tx hc =>
    exact hrest ((h.plans hc).advanceClock _ _) ((s.toSample_frame c kind i .config (by decide)).trans hc) (State.setTx_frame _ tx)
      (by decide)
  | collide c kind i hc =>
    refine hrest (v := s.collide c kind i) ((h.plans hc).advanceClock _ _) ((s.toSample_frame c kind i .config (by decide)).trans hc)
      (State.onlyChanges_comp (State.onlyChanges_comp (State.setTx_frame _ (.done kind .collided)) (State.count_frame _ _ _)
        (m := [.bus, .counters]) (by decide)) (State.offer_frame _ _) (m := [.bus, .counters, .events]) (by decide)) (by decide)
  | settleOwn c kind line v hc => exact hrest ((h.plans hc).elapse _) hc (State.settle_frame _ _ _ _) (by decide)
  | settlePeer c kind k line v hc =>
    have hf := (s.advanceTo c v).settle_frame kind k ((s.advanceTo c v).settleRecord c kind k line)
    have hset : ((s.advanceTo c v).settle kind k ((s.advanceTo c v).settleRecord c kind k line)).Scheduled :=
      hrest ((h.plans hc).elapse _) hc hf (by decide)
    have hcfg := (hf .config (by decide)).trans hc
    exact ((hset.plans hcfg).handRecord kind k _).scheduled ((State.handRecord_frame _ _ _ _ .config (by decide)).trans hcfg)
  | close c ha =>
    have hq := ((h.plans ha.1).quiet_of_emitted ha.2.2.1).1
    have hr := ((h.plans ha.1).reach ha c.claimClose).quiet hq.digest
    exact (State.Plans.closeClaims hr (Nat.lt_succ_self _)).scheduled
      ((State.closeClaims_frame _ c .config (by decide)).trans ha.1)
  | allocate c hc hb =>
    exact ((h.plans hc).completeAllocation hb).scheduled ((s.completeAllocation_frame c .config (by decide)).trans hc)
  | vote c own ha hs ho =>
    exact (((h.plans ha.1).reach ha _).vote ((h.plans ha.1).verdict_of_emitted ha.2.2.1) (Nat.lt_succ_self _) hs ho).scheduled
      ((State.vote_frame _ c own .config (by decide)).trans ha.1)
  | noVote c ha => exact ((h.plans ha.1).reach ha _).scheduled ha.1
  | slotStart c k ha hk => exact (((h.plans ha.1).reach ha _).startSlot hk ha.2.1 (Nat.lt_succ_self _)).scheduled ha.1
  | slotEnd c k ha hk =>
    exact (((h.plans ha.1).reach ha _).engineSlotEnd k).scheduled
      ((State.engineSlotEnd_onlyChanges _ c k .config (by decide)).trans ha.1)
  | patternEdge c r e hc hm =>
    have hp := (h.plans hc).advanceClock (r.origin + e.offset) (e.fine * c.divider / 10)
    exact (hp.playEdges ((s.advanceClock_engineKept c _ _).1.trans hm) _ _).scheduled
      ((s.edgeTime_playEdges_frame c r _ _ .config (by decide)).trans hc)
  | samples c input lows highs hc => exact ((h.plans hc).filterPulse input lows highs).scheduled hc
  | arrive c input lows highs cls hc =>
    exact (((h.plans hc).filterPulse input lows highs).arrive cls).scheduled
      ((State.arrive_frame _ cls .config (by decide)).trans hc)
  | endTransaction => exact h.endTransaction
  | code code => exact h.of_frame (s.completeCode_frame code) (by decide)

theorem StepEffect.scheduled {s t : State} (he : StepEffect s t) (hl : s.Loaded) (h : s.Scheduled) : t.Scheduled := by
  cases he with
  | command _ he => exact he.scheduled hl h
  | clock c hc => exact (h.plans hc).clock.scheduled ((s.clock_frame c .config (by decide)).trans hc)
  | bootClock => exact h

end Sys2Proof.Machine
end

section
/-! The claims in range (O59, second part): what a received announcement can say, what the own classes claim, and what each event leaves of
both. -/

namespace Sys2Proof.Machine

/-! ### Received announcements -/

theorem byteField_lt (b : Byte) (lo width : Nat) : byteField b lo width < 2 ^ width := Nat.mod_lt _ (Nat.two_pow_pos width)

theorem Claim.decode_inRange (b : Byte) : (Claim.decode b).inRange = true := by
  have h1 := byteField_lt b 6 2
  have h2 := byteField_lt b 4 2
  have h3 := byteField_lt b 3 1
  have h4 := byteField_lt b 1 2
  simp only [Claim.inRange, Bool.and_eq_true, decide_eq_true_eq]
  simp only [Claim.decode]
  omega

/-- A claim count of 0 to 4 is all that bytes need for an announcement in range. -/
theorem Announcement.decode_inRange {bytes : List Byte} (h : byteField (byteAt bytes 3) 0 3 ≤ 4) :
    (Announcement.decode bytes).inRange = true := by
  have h1 := byteField_lt (byteAt bytes 1) 4 4
  have h2 := byteField_lt (byteAt bytes 1) 1 3
  simp only [Announcement.inRange, Bool.and_eq_true, decide_eq_true_eq, List.all_eq_true]
  simp only [Announcement.decode, List.mem_map, List.length_map, List.length_take]
  refine ⟨⟨⟨h1, h2⟩, by omega⟩, ?_⟩
  rintro x ⟨b, -, rfl⟩
  exact Claim.decode_inRange b

/-- Reception takes no announcement with a claim count of 5 to 7 (R32). -/
theorem receiveBytes_claimCount {line : DatLine} {bd settle : Nat} (fuel : Nat) {got b : List Byte} {e : Nat}
    (h : receiveBytes .claim line bd settle fuel got e = .bytes b) : byteField (byteAt b 3) 0 3 ≤ 4 := by
  induction fuel generalizing got e with
  | zero => cases h
  | succ fuel ih =>
    unfold receiveBytes at h
    dsimp only at h
    split at h
    · cases h
    · split at h
      · cases h
      · split at h
        · cases h
        · split at h
          · split at h
            · exact ih h
            · cases h
          · next n hn =>
            split at h
            · cases h
            · split at h
              · split at h
                · exact ih h
                · cases h
              · split at h
                · cases h
                · cases h
                  unfold messageLength at hn
                  dsimp only at hn
                  split at hn
                  · cases hn
                  · cases hn
                    omega

theorem classify_inRange {kind : WindowKind} {k bd : Nat} {fingerprint : Half} {frame : Byte} {line : DatLine} {step : FrameStep}
    {a : Announcement} (h : classify kind k fingerprint frame (receive kind bd line) = .intact step (.announcement a)) :
    a.inRange = true := by
  cases hr : receive kind bd line with
  | silent => rw [hr] at h; cases h
  | damaged => rw [hr] at h; cases h
  | bytes b =>
    rw [hr] at h
    unfold classify at h
    dsimp only at h
    split at h
    · cases h
    · cases kind with
      | digest => cases h
      | claim =>
        dsimp only at h
        split at h
        · cases h
        · cases h
          refine Announcement.decode_inRange ?_
          unfold receive at hr
          split at hr
          · cases hr
          · exact receiveBytes_claimCount _ hr

theorem State.settleRecord_inRange {s : State} {c : Settings} {kind : WindowKind} {k : Nat} {line : DatLine} {step : FrameStep}
    {a : Announcement} (h : s.settleRecord c kind k line = .intact step (.announcement a)) : a.inRange = true := by
  unfold State.settleRecord at h
  dsimp only at h
  split at h
  · split at h
    · cases h
    · split at h
      · cases h
      · exact classify_inRange h
  · exact classify_inRange h

/-! ### The own classes -/

/-- The classes in use have priorities, limits and spans from which claims in range are made (R99, R115). -/
def Settings.claimable (c : Settings) : Prop := ∀ i, i < 4 → (c.classOf i).source ≠ .none →
  (c.classOf i).priority < 4 ∧ 1 ≤ (c.classOf i).limit ∧ (c.classOf i).limit ≤ 4 ∧ (c.classSpan i = 1 ∨ c.classSpan i = 2)

theorem claimsOf_inRange {c : Settings} (h : c.claimable) (entries : List DemandEntry) :
    ∀ x ∈ claimsOf c entries, x.inRange = true := by
  intro x hx
  obtain ⟨hcls, hx⟩ := (mem_claimsOf c entries x).mp hx
  obtain ⟨-, hp, hs, hcount⟩ := (mem_claimOf c entries x.cls x).mp hx
  have hsource : (c.classOf x.cls).source ≠ .none := by
    rcases hcount with ⟨e, -⟩ | ⟨e | e, -⟩ <;> rw [e] <;> decide
  obtain ⟨h1, h2, h3, h4⟩ := h x.cls hcls hsource
  simp only [Claim.inRange, Bool.and_eq_true, decide_eq_true_eq]
  rcases hcount with ⟨-, e⟩ | ⟨-, hn, e⟩ <;> omega

theorem settingsOf_claimable {image : List MergedGranule} {sid : BitVec 4} (h : imageAccepted image sid) :
    (settingsOf image).claimable := by
  obtain ⟨-, -, hc, hq⟩ := h
  intro i hi hs
  obtain ⟨hp, h1, h2, h3, -⟩ := settingsOf_class_inRange hc hi hs
  obtain ⟨hspan, -⟩ := settingsOf_pattern_inRange ((imagePatterns_iff image).mp hq)
    (p := ((settingsOf image).classOf i).pattern) (by omega)
  exact ⟨by omega, h2, h3, hspan⟩

/-! ### What keeps the claims in range -/

/-- What is new is in range, or is no claim at all. -/
theorem State.ClaimsInRange.of_changes {s t : State} (h : s.ClaimsInRange) (hc : t.cfg = s.cfg)
    (hb : ∀ r ∈ t.bus.claimRecords, r ∈ s.bus.claimRecords ∨ ∀ step a, r = .intact step (.announcement a) → a.inRange = true)
    (hd : ∀ x ∈ t.demand.claimRecord, x ∈ s.demand.claimRecord ∨ x.inRange = true)
    (ha : t.alloc.status = .building → t.alloc = s.alloc ∨ claimListFormed t.alloc.claimList) : t.ClaimsInRange := by
  obtain ⟨h1, h2, h3, h4⟩ := h
  refine ⟨fun r hr step a e => ?_, fun x hx => (hd x hx).elim (h2 x) id, by rw [hc]; exact h3, fun hs => ?_⟩
  · exact (hb r hr).elim (fun hr => h1 r hr step a e) fun hn => hn step a e
  · rcases ha hs with e | hf
    · rw [e] at hs ⊢
      exact h4 hs
    · exact hf

/-- The blocks from which the law of the claims is not read. -/
def claimlessBlocks : List Block :=
  [.straps, .timer, .membership, .agree, .engine, .loader, .events, .counters, .port, .draws, .pending]

theorem State.ClaimsInRange.of_frame {s t : State} {l : List Block} (h : s.ClaimsInRange) (hf : s.onlyChanges t l)
    (hl : ∀ b ∈ l, b ∈ claimlessBlocks) : t.ClaimsInRange := by
  have hf := State.onlyChanges_mono hf hl
  have hcfg : t.cfg = s.cfg := hf .config (by decide)
  have hbus : t.bus = s.bus := hf .bus (by decide)
  have halloc : t.alloc = s.alloc := hf .alloc (by decide)
  have hdemand : t.demand = s.demand := hf .demand (by decide)
  simpa only [State.ClaimsInRange, hcfg, hbus, halloc, hdemand] using h

/-- Nor is it read from more of the bus and of the queue than the claim records. -/
theorem State.ClaimsInRange.of_same {s t : State} (h : s.ClaimsInRange) (hc : t.cfg = s.cfg)
    (hb : t.bus.claimRecords = s.bus.claimRecords) (hd : t.demand.claimRecord = s.demand.claimRecord) (ha : t.alloc = s.alloc) :
    t.ClaimsInRange :=
  h.of_changes hc (fun _ hr => .inl (hb ▸ hr)) (fun _ hx => .inl (hd ▸ hx)) fun _ => .inl ha

/-- A queue left alone or cancelled. -/
theorem State.keepsQueue.claimRecord {s t : State} (h : s.keepsQueue t) :
    t.demand.claimRecord = s.demand.claimRecord ∨ t.demand.claimRecord = [] := by
  obtain ⟨-, -, hq⟩ := h
  exact hq.imp (fun ⟨hd, _⟩ => by rw [hd]) fun ⟨_, hc, _⟩ => hc

theorem State.ClaimsInRange.of_keepsQueue {s t : State} (h : s.ClaimsInRange) (hk : s.keepsQueue t) : t.ClaimsInRange := by
  have hbus : t.bus = s.bus := hk.1 .bus (by decide)
  refine h.of_changes (hk.1 .config (by decide)) (fun _ hr => .inl (hbus ▸ hr)) (fun x hx => .inl ?_)
    fun _ => .inl (hk.1 .alloc (by decide))
  rcases hk.claimRecord with e | e
  · exact e ▸ hx
  · rw [e] at hx; cases hx

theorem State.ClaimsInRange.takeMark {s : State} (h : s.ClaimsInRange) (c : Settings) (cls : MarkClass) (selfStart pulls : Bool) :
    (s.takeMark c cls selfStart pulls).ClaimsInRange := by
  obtain ⟨hbus, hst, -, -, -, -, -, -, -, -, -, -, hclaim, -⟩ := s.takeMark_clears c cls selfStart pulls
  refine h.of_changes (s.takeMark_frame c cls selfStart pulls .config (by decide)) (fun r hr => .inr ?_) (fun x hx => ?_) fun hb => ?_
  · rw [hbus] at hr
    obtain ⟨-, rfl⟩ := List.mem_replicate.mp hr
    nofun
  · rw [hclaim] at hx; cases hx
  · rw [hst] at hb; cases hb

theorem State.ClaimsInRange.busFault {s : State} (h : s.ClaimsInRange) (c : Settings) :
    ((s.elapse c (65 - s.timer.markLow)).takeBusFault c).ClaimsInRange := by
  have hu : (s.faulted c).ClaimsInRange := h.of_same rfl rfl rfl rfl
  have hv := hu.of_keepsQueue (State.keepsQueue_faultStation _)
  rw [s.takeBusFault_eq]
  exact hv.of_changes rfl (fun _ hr => .inl hr) (fun _ hx => .inl hx) nofun

theorem State.ClaimsInRange.endTransaction {s : State} (h : s.ClaimsInRange) : s.endTransaction.ClaimsInRange := by
  have hact : s.endAction.ClaimsInRange := by
    unfold State.endAction
    split
    · split
      · split
        · exact h.of_frame (s.setEvents_frame _) (by decide)
        · exact h
      · split
        · exact h.of_frame (s.setEvents_frame _) (by decide)
        · exact h
      · exact (h.of_keepsQueue (s.keepsQueue_takeCommand _)).of_frame (State.setPort_frame _ _) (by decide)
      · exact h
    · exact h
  exact hact.of_frame (State.setPort_frame _ _) (by decide)

theorem State.ClaimsInRange.completeLoad {s : State} (h : s.ClaimsInRange) (hs : s.loadSucceeds = true) (a b : Bool) :
    (s.completeLoad a b).ClaimsInRange := by
  obtain ⟨-, -, hi⟩ := s.loadSucceeds_iff.mp hs
  obtain ⟨h1, h2, -, -⟩ := h
  refine State.ClaimsInRange.of_keepsQueue ?_ (State.keepsQueue_enterListening _)
  refine ⟨h1, h2, fun c hc => ?_, nofun⟩
  cases hc
  exact settingsOf_claimable (imageAccepted_of_checkingFailure hi)

theorem State.ClaimsInRange.openOwnClaim {s : State} {c : Settings} (h : s.ClaimsInRange) (hc : s.cfg = some c) :
    (s.openOwnClaim c).ClaimsInRange := by
  have hreact (u : State) (hu : u.ClaimsInRange) (huc : u.cfg = some c) : (u.ownWindowReaction c).ClaimsInRange := by
    obtain ⟨-, -, hcl, -⟩ := id hu
    unfold State.ownWindowReaction
    split
    · split
      · exact hu.of_keepsQueue (State.keepsQueue_enterLeaving ‹_›)
      · exact hu.of_changes rfl (fun _ hr => .inl hr) (fun x hx => .inr (claimsOf_inRange (hcl c huc) _ x hx)) fun _ => .inl rfl
    · exact hu.of_changes rfl (fun _ hr => .inl hr) (fun x hx => by cases hx) fun _ => .inl rfl
  have hopen := hreact (s.openWindow .claim s.me) (h.of_same rfl rfl rfl rfl) hc
  unfold State.openOwnClaim
  dsimp only
  split
  · exact hopen.of_same rfl rfl rfl rfl
  · exact hopen

theorem State.ClaimsInRange.settle {s : State} (h : s.ClaimsInRange) (c : Settings) (kind : WindowKind) (k : Nat) (line : DatLine) :
    (s.settle kind k (s.settleRecord c kind k line)).ClaimsInRange := by
  have hw : ({ s with bus := s.bus.write kind k (s.settleRecord c kind k line) } : State).ClaimsInRange := by
    refine h.of_changes rfl (fun r hr => ?_) (fun _ hx => .inl hx) fun _ => .inl rfl
    cases kind with
    | digest => exact .inl hr
    | claim =>
      rcases List.mem_or_eq_of_mem_set hr with hm | rfl
      · exact .inl hm
      · exact .inr fun step a e => State.settleRecord_inRange e
  exact hw.of_frame (State.countRecord_frame _ _) (by decide)

theorem State.ClaimsInRange.closeClaims {s : State} (h : s.ClaimsInRange) (c : Settings) : (s.closeClaims c).ClaimsInRange := by
  have hm := h.of_keepsQueue s.keepsQueue_membershipClose
  refine hm.of_changes rfl (fun _ hr => .inl hr) (fun _ hx => .inl hx) fun hb => .inr ?_
  by_cases hst : s.membershipClose.1.station = .member
  · rw [(s.closeClaims_of_member c hst).2]
    refine State.formClaimList_formed _ c fun k g claims hk ha x hx => Claim.inRange_span ?_
    exact (State.membershipClose_admits_inRange hst h hk ha).1 x hx
  · rw [(s.closeClaims_of_not_member c hst).1] at hb
    cases hb

theorem State.completeAllocation_status (s : State) (c : Settings) : (s.completeAllocation c).alloc.status = .complete := by
  unfold State.completeAllocation
  dsimp only
  split <;> rfl

theorem State.vote_claimRecord (s : State) (c : Settings) (own : Half) :
    (s.vote c own).demand.claimRecord = s.demand.claimRecord := by
  unfold State.vote
  dsimp only
  split
  · exact (foldl_bindCell_sizes c _ _).2
  · rfl

theorem State.startSlot_claimRecord (s : State) (c : Settings) (k : Nat) :
    (s.startSlot c k).demand.claimRecord = s.demand.claimRecord := by
  unfold State.startSlot
  dsimp only
  split <;> rfl

theorem State.retire_claimRecord (s : State) (slot channel : Nat) :
    (s.retire slot channel).demand.claimRecord = s.demand.claimRecord := by
  unfold State.retire
  split <;> rfl

theorem State.engineSlotEnd_claimRecord (s : State) (c : Settings) (k : Nat) :
    (s.engineSlotEnd c k).demand.claimRecord = s.demand.claimRecord := by
  unfold State.engineSlotEnd
  split
  · split
    · exact State.retire_claimRecord _ _ _
    · split <;> rfl
  · rfl

theorem DemandQueue.setFilter_claimRecord (q : DemandQueue) (input : TrgInput) (f : TrgFilter) :
    (q.setFilter input f).claimRecord = q.claimRecord := by cases input <;> rfl

theorem State.arrive_claimRecord (s : State) (cls : Nat) : (s.arrive cls).demand.claimRecord = s.demand.claimRecord := by
  unfold State.arrive
  split
  · split <;> rfl
  · split <;> rfl

theorem Effect.claimsInRange {s t : State} (he : Effect s t) (h : s.ClaimsInRange) : t.ClaimsInRange := by
  have hsample (c : Settings) (kind : WindowKind) (i : Nat) : (s.toSample c kind i).ClaimsInRange :=
    h.of_frame (s.toSample_frame c kind i) (by decide)
  cases he with
  | stay | beginLoad | granule | failLoad | fall | passOver | hold | pullEnd | rise | silence | noVote | port => exact h
  | reset =>
    refine ⟨fun r hr => ?_, nofun, nofun, nofun⟩
    obtain ⟨-, rfl⟩ := List.mem_replicate.mp hr
    nofun
  | load a b hs => exact h.completeLoad hs a b
  | mark | selfStart => exact h.takeMark _ _ _ _
  | expire c => exact State.ClaimsInRange.takeMark (s := s.reach c _ _) h _ _ _ _
  | riseStart => exact State.ClaimsInRange.takeMark (s := s.riseFrm) h _ _ _ _
  | busFault c => exact h.busFault c
  | openPeer c kind place v k => exact h.of_same rfl rfl rfl rfl
  | openOwnClaim c ha => exact State.ClaimsInRange.openOwnClaim (s := s.reach c _ _) h ha.1
  | openOwnDigest c place v k => exact h.of_same rfl rfl rfl rfl
  | leadInEnd c v tx => exact h.of_same rfl rfl rfl rfl
  | sent c kind i tx => exact (hsample c kind i).of_same rfl rfl rfl rfl
  | collide c kind i => exact (hsample c kind i).of_same rfl rfl rfl rfl
  | settleOwn c kind line v => exact State.ClaimsInRange.settle (s := s.advanceTo c v) h c _ _ line
  | settlePeer c kind k line v =>
    exact (State.ClaimsInRange.settle (s := s.advanceTo c v) h c _ _ line).of_frame (State.handRecord_frame _ _ _ _) (by decide)
  | close c => exact State.ClaimsInRange.closeClaims (s := s.reach c _ _) h c
  | allocate c hc =>
    have hf := s.completeAllocation_frame c
    have hbus : (s.completeAllocation c).bus = s.bus := hf .bus (by decide)
    have hdemand : (s.completeAllocation c).demand = s.demand := hf .demand (by decide)
    refine h.of_changes (hf .config (by decide)) (fun _ hr => .inl (hbus ▸ hr)) (fun _ hx => .inl (hdemand ▸ hx)) fun hb => ?_
    rw [s.completeAllocation_status c] at hb
    cases hb
  | vote c own =>
    have hf := (s.reach c c.placeDigestClose c.digestClose).vote_frame c own
    have hbus := hf .bus (by decide)
    exact h.of_same (hf .config (by decide)) (congrArg BusInterface.claimRecords hbus) (State.vote_claimRecord _ c own)
      (hf .alloc (by decide))
  | slotStart c k => exact h.of_same rfl rfl (State.startSlot_claimRecord _ c k) rfl
  | slotEnd c k =>
    have hf := (s.reach c (c.placeSlotEnd k) (c.slotEndAt k)).engineSlotEnd_onlyChanges c k
    have hbus := hf .bus (by decide)
    exact h.of_same (hf .config (by decide)) (congrArg BusInterface.claimRecords hbus) (State.engineSlotEnd_claimRecord _ c k)
      (hf .alloc (by decide))
  | patternEdge => exact h.of_frame (s.edgeTime_playEdges_frame _ _ _ _) (by decide)
  | samples c input => exact h.of_same rfl rfl (s.demand.setFilter_claimRecord input _) rfl
  | arrive c input lows highs cls =>
    have hf := (s.setFilter input (filterPulse c.divider (s.demand.filterOf input) lows highs).1).arrive_frame cls
    have hbus := hf .bus (by decide)
    exact h.of_same (hf .config (by decide)) (congrArg BusInterface.claimRecords hbus)
      ((State.arrive_claimRecord _ cls).trans (s.demand.setFilter_claimRecord input _)) (hf .alloc (by decide))
  | endTransaction => exact h.endTransaction
  | code code => exact h.of_frame (s.completeCode_frame code) (by decide)

theorem StepEffect.claimsInRange {s t : State} (he : StepEffect s t) (h : s.ClaimsInRange) : t.ClaimsInRange := by
  cases he with
  | command _ he => exact he.claimsInRange h
  | clock c => exact h.of_frame (s.clock_frame c) (by decide)
  | bootClock => exact h

end Sys2Proof.Machine

namespace Sys2Proof.Proofs

open Sys2Proof.Machine

/-- Settles O59: what belongs to a schedule goes before the station leaves MEMBER or the frame ends, and a claim is made of what is in
range already. -/
theorem stepKeepsSchedule : Obligations.StepKeepsSchedule := by
  unfold Obligations.StepKeepsSchedule
  intro s t h
  constructor
  · rintro ⟨-, hl, -, -, hs⟩
    exact step_keeps (P := fun s => s.Loaded ∧ s.Scheduled) (fun _ _ h => h) (fun _ _ h => h)
      (fun _ _ ⟨hl, hs⟩ he => he.scheduled hl hs) ⟨hl, hs⟩ h
  · exact fun hc => step_keeps (fun _ _ h => h) (fun _ _ h => h) (fun _ _ hc he => he.claimsInRange hc) hc h

end Sys2Proof.Proofs
end

section
/-! Binding and its law (O60): the entries that binding leaves, read off entry by entry, and what each event leaves of them. -/

namespace Sys2Proof.Machine

/-! ### Binding, entry by entry (R107) -/

/-- A PENDING entry of a triggered class: one that binding can take. -/
def DemandEntry.bindable (e : DemandEntry) (c : Settings) : Bool := e.bound == none && (c.classOf e.cls).triggered

/-- What binding makes of the queue, entry by entry: each PENDING entry of a triggered class takes the first cell of its class that none
before it has taken. -/
def bindEntries (c : Settings) : List DemandEntry → List (Nat × Nat × Nat) → List DemandEntry
  | [], _ => []
  | e :: rest, cells =>
    if e.bindable c then
      match cells.find? (fun p => p.2.2 == e.cls) with
      | some p => { e with bound := some (p.1, p.2.1) } :: bindEntries c rest (cells.eraseP (fun p => p.2.2 == e.cls))
      | none => e :: bindEntries c rest cells
    else e :: bindEntries c rest cells

/-- The entries after one cell. -/
def bindStep (c : Settings) (l : List DemandEntry) (p : Nat × Nat × Nat) : List DemandEntry :=
  if (c.classOf p.2.2).triggered then (bindOldest p.2.2 p.1 p.2.1 l).1 else l

theorem bindCell_entries (c : Settings) (q : DemandQueue) (p : Nat × Nat × Nat) :
    (bindCell c q p.1 p.2.1 p.2.2).entries = bindStep c q.entries p := by
  unfold bindCell bindStep
  dsimp only
  split <;> rfl

theorem bindEntries_nil_right (c : Settings) (l : List DemandEntry) : bindEntries c l [] = l := by
  induction l with
  | nil => rfl
  | cons e l ih =>
    unfold bindEntries
    split
    · exact congrArg _ ih
    · exact congrArg _ ih

theorem bindStep_cons_of_taken {c : Settings} {e : DemandEntry} {p : Nat × Nat × Nat} (hb : e.bindable c = true)
    (hp : p.2.2 = e.cls) (rest : List DemandEntry) :
    bindStep c (e :: rest) p = { e with bound := some (p.1, p.2.1) } :: rest := by
  simp only [DemandEntry.bindable, Bool.and_eq_true, beq_iff_eq] at hb
  obtain ⟨hn, ht⟩ := hb
  simp only [bindStep, bindOldest, hp, ht, hn, and_self, if_true]

theorem bindStep_cons_of_left {c : Settings} {e : DemandEntry} {p : Nat × Nat × Nat} (h : e.bindable c = true → p.2.2 ≠ e.cls)
    (rest : List DemandEntry) : bindStep c (e :: rest) p = e :: bindStep c rest p := by
  unfold bindStep
  split
  · next ht =>
    have hne : ¬ (e.cls = p.2.2 ∧ e.bound = none) := fun ⟨hc, hn⟩ => by
      refine h ?_ hc.symm
      rw [← hc] at ht
      simp only [DemandEntry.bindable, hn, ht]
      rfl
    simp only [bindOldest, hne, if_false]
  · rfl

theorem bindEntries_cons_of_not {c : Settings} {e : DemandEntry} (h : e.bindable c = false) (rest : List DemandEntry)
    (cells : List (Nat × Nat × Nat)) : bindEntries c (e :: rest) cells = e :: bindEntries c rest cells := by
  simp only [bindEntries, h, Bool.false_eq_true, if_false]

theorem bindEntries_cons_of_some {c : Settings} {e : DemandEntry} {cells : List (Nat × Nat × Nat)} {p : Nat × Nat × Nat}
    (h : e.bindable c = true) (hp : cells.find? (fun p => p.2.2 == e.cls) = some p) (rest : List DemandEntry) :
    bindEntries c (e :: rest) cells =
      { e with bound := some (p.1, p.2.1) } :: bindEntries c rest (cells.eraseP (fun p => p.2.2 == e.cls)) := by
  simp only [bindEntries, h, hp, if_true]

theorem bindEntries_cons_of_none {c : Settings} {e : DemandEntry} {cells : List (Nat × Nat × Nat)}
    (h : e.bindable c = true) (hp : cells.find? (fun p => p.2.2 == e.cls) = none) (rest : List DemandEntry) :
    bindEntries c (e :: rest) cells = e :: bindEntries c rest cells := by
  simp only [bindEntries, h, hp, if_true]

/-- One cell more in front is one step before the rest. -/
theorem bindEntries_cons_right (c : Settings) (l : List DemandEntry) (p : Nat × Nat × Nat) (cells : List (Nat × Nat × Nat)) :
    bindEntries c l (p :: cells) = bindEntries c (bindStep c l p) cells := by
  induction l generalizing cells with
  | nil => unfold bindStep; split <;> rfl
  | cons e l ih =>
    cases hb : e.bindable c with
    | false =>
      rw [bindStep_cons_of_left (fun h => by rw [hb] at h; cases h), bindEntries_cons_of_not hb, bindEntries_cons_of_not hb, ih]
    | true =>
      by_cases hp : p.2.2 = e.cls
      · have hdone : ({ e with bound := some (p.1, p.2.1) } : DemandEntry).bindable c = false := rfl
        rw [bindStep_cons_of_taken hb hp, bindEntries_cons_of_not hdone, bindEntries_cons_of_some (p := p) hb (by simp [hp])]
        simp [hp]
      · rw [bindStep_cons_of_left (fun _ => hp)]
        cases hq : cells.find? (fun p => p.2.2 == e.cls) with
        | none =>
          rw [bindEntries_cons_of_none hb (by simp [hp, hq]), bindEntries_cons_of_none hb hq, ih]
        | some q =>
          rw [bindEntries_cons_of_some hb (p := q) (by simp [hp, hq]), bindEntries_cons_of_some hb hq, ← ih]
          simp [hp]

theorem foldl_bindCell_entries (c : Settings) (cells : List (Nat × Nat × Nat)) (q : DemandQueue) :
    (cells.foldl (fun q p => bindCell c q p.1 p.2.1 p.2.2) q).entries = bindEntries c q.entries cells := by
  induction cells generalizing q with
  | nil => exact (bindEntries_nil_right c _).symm
  | cons p cells ih =>
    rw [List.foldl_cons, ih, bindCell_entries, bindEntries_cons_right]

/-! ### No two entries on one cell -/

/-- The cells that are left when the first of a class is taken, with that one in front, are all of them. -/
theorem perm_cons_eraseP {cells : List (Nat × Nat × Nat)} {f : Nat × Nat × Nat → Bool} {p : Nat × Nat × Nat}
    (h : cells.find? f = some p) : cells.Perm (p :: cells.eraseP f) := by
  induction cells with
  | nil => cases h
  | cons a cells ih =>
    cases ha : f a with
    | true =>
      rw [List.find?_cons_of_pos ha] at h
      cases h
      rw [List.eraseP_cons_of_pos ha]
    | false =>
      rw [List.find?_cons_of_neg (by simp [ha])] at h
      rw [List.eraseP_cons_of_neg (by simp [ha])]
      exact ((ih h).cons a).trans (.swap p a _)

/-- A bound entry that was not bound before is on one of the cells, of its own class. -/
theorem mem_bindEntries {c : Settings} {l : List DemandEntry} {cells : List (Nat × Nat × Nat)} {e : DemandEntry}
    (h : e ∈ bindEntries c l cells) : e ∈ l ∨ ∃ p ∈ cells, e.bound = some (p.1, p.2.1) ∧ e.cls = p.2.2 := by
  induction l generalizing cells with
  | nil => cases h
  | cons a l ih =>
    have hstay (cells' : List (Nat × Nat × Nat)) (hs : ∀ p ∈ cells', p ∈ cells) (h : e ∈ bindEntries c l cells') :
        e ∈ a :: l ∨ ∃ p ∈ cells, e.bound = some (p.1, p.2.1) ∧ e.cls = p.2.2 :=
      (ih h).imp (List.mem_cons_of_mem _) fun ⟨p, hp, hb⟩ => ⟨p, hs p hp, hb⟩
    cases hb : a.bindable c with
    | false =>
      rw [bindEntries_cons_of_not hb] at h
      rcases List.mem_cons.mp h with rfl | h
      · exact .inl (List.mem_cons_self ..)
      · exact hstay cells (fun _ => id) h
    | true =>
      cases hq : cells.find? (fun p => p.2.2 == a.cls) with
      | none =>
        rw [bindEntries_cons_of_none hb hq] at h
        rcases List.mem_cons.mp h with rfl | h
        · exact .inl (List.mem_cons_self ..)
        · exact hstay cells (fun _ => id) h
      | some q =>
        rw [bindEntries_cons_of_some hb hq] at h
        rcases List.mem_cons.mp h with rfl | h
        · have hcls : q.2.2 = a.cls := by simpa using List.find?_some hq
          exact .inr ⟨q, List.mem_of_find?_eq_some hq, rfl, hcls.symm⟩
        · exact hstay _ (fun p hp => List.mem_of_mem_eraseP hp) h

/-- From entries that are all PENDING, and cells that differ in their slots, binding makes no two entries share a cell. -/
theorem bindEntries_pairwise {c : Settings} {l : List DemandEntry} {cells : List (Nat × Nat × Nat)}
    (hl : ∀ e ∈ l, e.bound = none) (hc : cells.Pairwise (fun p q => p.1 ≠ q.1)) :
    (bindEntries c l cells).Pairwise (fun a b => a.bound ≠ none → a.bound ≠ b.bound) := by
  induction l generalizing cells with
  | nil => exact .nil
  | cons a l ih =>
    obtain ⟨ha, hl⟩ := List.forall_mem_cons.mp hl
    cases hb : a.bindable c with
    | false =>
      rw [bindEntries_cons_of_not hb]
      exact List.pairwise_cons.mpr ⟨fun b _ h => absurd ha h, ih hl hc⟩
    | true =>
      cases hq : cells.find? (fun p => p.2.2 == a.cls) with
      | none =>
        rw [bindEntries_cons_of_none hb hq]
        exact List.pairwise_cons.mpr ⟨fun b _ h => absurd ha h, ih hl hc⟩
      | some q =>
        have hperm := ((perm_cons_eraseP hq).pairwise_iff fun h => Ne.symm h).mp hc
        obtain ⟨hfirst, hrest⟩ := List.pairwise_cons.mp hperm
        rw [bindEntries_cons_of_some hb hq]
        refine List.pairwise_cons.mpr ⟨fun b hb _ => ?_, ih hl hrest⟩
        rcases mem_bindEntries hb with hm | ⟨p, hp, hbp, -⟩
        · rw [hl b hm]; nofun
        · rw [hbp]
          intro he
          have hcell : (q.1, q.2.1) = (p.1, p.2.1) := Option.some.inj he
          exact hfirst p hp (Prod.ext_iff.mp hcell).1

/-! ### The own part-0 cells (R81, R107) -/

theorem State.mem_ownPart0 (s : State) (c : Settings) (k ch i : Nat) :
    (k, ch, i) ∈ s.ownPart0 c ↔ k < c.slots ∧ ∃ x, s.ownCellIs k ch x ∧ x.cls = i ∧ x.part = 0 := by
  simp only [State.ownPart0, List.mem_filterMap, List.mem_range]
  constructor
  · rintro ⟨k', hk, h⟩
    split at h
    · next ch' x ho =>
      split at h
      · next hp =>
        cases h
        exact ⟨hk, x, (s.ownCell_eq_some _ _ _).mp ho, rfl, hp⟩
      · cases h
    · cases h
  · rintro ⟨hk, x, ho, rfl, hp⟩
    exact ⟨k, hk, by rw [(s.ownCell_eq_some _ _ _).mpr ho]; exact if_pos hp⟩

theorem State.ownPart0_pairwise (s : State) (c : Settings) : (s.ownPart0 c).Pairwise (fun p q => p.1 < q.1) := by
  refine List.pairwise_filterMap.mpr (List.pairwise_lt_range.imp fun hlt p hp q hq => ?_)
  have hslot {k : Nat} {p : Nat × Nat × Nat} (h : (match s.ownCell k with
      | some (ch, x) => if x.part = 0 then some (k, ch, x.cls) else none
      | none => none) = some p) : p.1 = k := by
    split at h
    · split at h
      · cases h; rfl
      · cases h
    · cases h
  rw [hslot hp, hslot hq]
  exact hlt

/-! ### What keeps the bindings -/

theorem State.BoundLaw.of_unbound {s : State} (h : ∀ e ∈ s.demand.entries, e.bound = none) : s.BoundLaw := by
  refine ⟨fun e he k ch hb => ?_, List.pairwise_of_forall_mem_list fun a ha _ _ hn => absurd (h a ha) hn⟩
  rw [h e he] at hb; cases hb

theorem State.BoundLaw.of_nil {s : State} (h : s.demand.entries = []) : s.BoundLaw :=
  .of_unbound fun e he => by rw [h] at he; cases he

/-- Verdict, table and station number stand, and entries only leave. -/
theorem State.BoundLaw.of_sublist {s t : State} (h : s.BoundLaw) (he : t.demand.entries.Sublist s.demand.entries)
    (hv : t.agree.verdict = s.agree.verdict) (ha : t.alloc = s.alloc) (hm : t.sid = s.sid) : t.BoundLaw := by
  obtain ⟨h1, h2⟩ := h
  have hme : t.me = s.me := congrArg BitVec.toNat hm
  refine ⟨fun e hmem k ch hb => ?_, h2.sublist he⟩
  obtain ⟨hx, x, ho, hc⟩ := h1 e (he.subset hmem) k ch hb
  refine ⟨hv.trans hx, x, ?_, hc⟩
  simpa only [State.ownCellIs, ha, hme] using ho

/-- The blocks from which the law of the bindings is not read. -/
def bindlessBlocks : List Block := [.config, .timer, .bus, .membership, .engine, .loader, .events, .counters, .port, .draws, .pending]

theorem State.BoundLaw.of_frame {s t : State} {l : List Block} (h : s.BoundLaw) (hf : s.onlyChanges t l)
    (hl : ∀ b ∈ l, b ∈ bindlessBlocks) : t.BoundLaw := by
  have hf := State.onlyChanges_mono hf hl
  have hdemand : t.demand = s.demand := hf .demand (by decide)
  have hagree : t.agree = s.agree := hf .agree (by decide)
  exact h.of_sublist (by rw [hdemand]) (by rw [hagree]) (hf .alloc (by decide)) (hf .straps (by decide)).2

theorem State.BoundLaw.of_keepsQueue {s t : State} (h : s.BoundLaw) (hk : s.keepsQueue t) : t.BoundLaw := by
  obtain ⟨hf, -, hq⟩ := hk
  rcases hq with ⟨hd, ha, -⟩ | ⟨he, -⟩
  · exact h.of_sublist (by rw [hd]) (by rw [ha]) (hf .alloc (by decide)) (hf .straps (by decide)).2
  · exact .of_nil he

theorem State.BoundLaw.endTransaction {s : State} (h : s.BoundLaw) : s.endTransaction.BoundLaw := by
  have hact : s.endAction.BoundLaw := by
    unfold State.endAction
    split
    · split
      · split
        · exact h.of_frame (s.setEvents_frame _) (by decide)
        · exact h
      · split
        · exact h.of_frame (s.setEvents_frame _) (by decide)
        · exact h
      · exact (h.of_keepsQueue (s.keepsQueue_takeCommand _)).of_frame (State.setPort_frame _ _) (by decide)
      · exact h
    · exact h
  exact hact.of_frame (State.setPort_frame _ _) (by decide)

/-- Binding sets up the law: before the verdict nothing is bound. -/
theorem State.BoundLaw.vote {s : State} {c : Settings} (h : s.Plans c) (hv : s.agree.verdict = .none) (own : Half) :
    (s.vote c own).BoundLaw := by
  have hunbound : ∀ e ∈ s.demand.entries, e.bound = none := fun e he => by
    by_contra hb
    have := h.bound e he hb
    rw [hv] at this; cases this
  unfold State.vote
  extract_lets v a s1
  split
  · next hx =>
    have hx : v = .expose := hx
    have hentries : (s1.bind c).demand.entries = bindEntries c s.demand.entries (s1.ownPart0 c) := foldl_bindCell_entries c _ _
    refine ⟨fun e he k ch hb => ⟨hx, ?_⟩, ?_⟩
    · rw [hentries] at he
      rcases mem_bindEntries he with hm | ⟨p, hp, hbp, hcls⟩
      · rw [hunbound e hm] at hb; cases hb
      · rw [hb] at hbp
        cases hbp
        obtain ⟨-, x, ho, hxc, hxp⟩ := (s1.mem_ownPart0 c p.1 p.2.1 p.2.2).mp hp
        exact ⟨x, ho, hxc.trans hcls.symm, hxp⟩
    · rw [hentries]
      exact bindEntries_pairwise hunbound ((s1.ownPart0_pairwise c).imp fun h => Nat.ne_of_lt h)
  · exact .of_unbound hunbound

theorem State.BoundLaw.engineSlotEnd {s : State} (h : s.BoundLaw) (c : Settings) (k : Nat) : (s.engineSlotEnd c k).BoundLaw := by
  have hf := s.engineSlotEnd_onlyChanges c k
  have hagree : (s.engineSlotEnd c k).agree = s.agree := hf .agree (by decide)
  refine h.of_sublist ?_ (by rw [hagree]) (hf .alloc (by decide)) (hf .straps (by decide)).2
  unfold State.engineSlotEnd
  split
  · split
    · next r _ _ =>
      cases hi : s.demand.itemAt r.slot r.channel with
      | none =>
        rw [State.endExposure, State.retire, show DemandQueue.itemAt _ _ _ = _ from hi]
      | some it =>
        rw [State.endExposure_of_some c true hi]
        show (s.demand.drop it).entries.Sublist _
        rw [DemandQueue.drop_entries]
        split
        · exact List.filter_sublist
        · exact .refl _
    · split <;> exact .refl _
  · exact .refl _

theorem State.BoundLaw.arrive {s : State} (h : s.BoundLaw) (cls : Nat) : (s.arrive cls).BoundLaw := by
  obtain ⟨h1, h2⟩ := id h
  unfold State.arrive
  split
  · split
    · refine ⟨fun e he k ch hb => ?_, List.pairwise_append.mpr ⟨h2, List.pairwise_singleton .., fun a _ b hb hn => ?_⟩⟩
      · rcases List.mem_append.mp he with hm | hm
        · exact h1 e hm k ch hb
        · rw [List.mem_singleton.mp hm] at hb; cases hb
      · rw [List.mem_singleton.mp hb]
        exact hn
    · exact h
  · split <;> exact h

theorem State.startSlot_entries (s : State) (c : Settings) (k : Nat) : (s.startSlot c k).demand.entries = s.demand.entries := by
  unfold State.startSlot
  dsimp only
  split <;> rfl

theorem DemandQueue.setFilter_entries (q : DemandQueue) (input : TrgInput) (f : TrgFilter) :
    (q.setFilter input f).entries = q.entries := by cases input <;> rfl

theorem State.BoundLaw.handRecord {s : State} (h : s.BoundLaw) (kind : WindowKind) (k : Nat) (r : WindowRecord) :
    (s.handRecord kind k r).BoundLaw := by
  unfold State.handRecord
  split
  · split
    · exact h
    · exact h
  · exact h
  · exact h

/-- Until the table is COMPLETE nothing is scheduled. -/
theorem State.Plans.quiet_of_status {s : State} {c : Settings} (h : s.Plans c) (hs : s.alloc.status ≠ .complete) : s.Quiet c :=
  h.quiet (Option.not_isSome_iff_eq_none.mp fun hd => hs (h.digest hd).2)

theorem State.Quiet.boundLaw {s : State} {c : Settings} (h : s.Quiet c) : s.BoundLaw := .of_unbound h.unbound

theorem Effect.boundLaw {s t : State} (he : Effect s t) (hl : s.Loaded) (hs : s.Scheduled) (h : s.BoundLaw) : t.BoundLaw := by
  have hload (hc : s.cfg = none) : s.demand.entries = [] := by
    obtain ⟨-, -, -, he, -⟩ := (State.scheduled_iff_of_none hc).mp hs
    exact he
  have hsame {t : State} (hd : t.demand.entries = s.demand.entries) (ha : t.agree.verdict = s.agree.verdict) (hal : t.alloc = s.alloc)
      (hsid : t.sid = s.sid) : t.BoundLaw := h.of_sublist (by rw [hd]) ha hal hsid
  have hmark (u : State) (c : Settings) (cls : MarkClass) (self pulls : Bool) : (u.takeMark c cls self pulls).BoundLaw := by
    obtain ⟨-, -, -, -, -, -, -, -, -, -, -, -, -, hb, -⟩ := u.takeMark_clears c cls self pulls
    exact .of_unbound hb
  cases he with
  | stay | granule | failLoad | fall | passOver | hold | pullEnd | rise | silence | openPeer | openOwnDigest | leadInEnd | noVote
  | port => exact h
  | reset => exact .of_nil rfl
  | beginLoad straps hr =>
    obtain ⟨-, -, -, hi, -⟩ := id hl
    have hidle : s.loader.state = .idle := hi hr
    exact .of_nil (hload (hl.of_open (by rw [hidle]; rfl)).1)
  | load a b hsucc =>
    obtain ⟨hc, hst, -⟩ := hl.of_loadSucceeds hsucc
    rw [State.completeLoad_of_loading hst]
    exact .of_nil (hload hc)
  | mark | expire | riseStart | selfStart => exact hmark _ _ _ _ _
  | busFault c hc =>
    rw [s.takeBusFault_eq]
    exact .of_nil ((hs.plans hc).faulted.cancels_of_ne_member (State.keepsQueue_faultStation _) (State.faultStation_ne_member _)).1
  | openOwnClaim c ha hk =>
    have hr := (hs.plans ha.1).reach ha (c.claimStart s.me)
    have hemitted : s.me + 1 ≤ c.windows := hk
    have hp := hr.openOwnClaim hemitted
    have halloc : (State.openOwnClaim _ c).alloc = s.alloc := State.openOwnClaim_frame (s.reach c s.me (c.claimStart s.me)) c .alloc (by decide)
    have hst : s.alloc.status = .none := (hr.quiet_of_emitted hemitted).2
    exact (hp.quiet_of_status (by rw [halloc, hst]; decide)).boundLaw
  | sent c kind i tx => exact h.of_frame (State.onlyChanges_comp (s.toSample_frame c kind i) (State.setTx_frame _ tx)
      (m := [.timer, .engine, .bus]) (by decide)) (by decide)
  | collide c kind i => exact h.of_frame (s.collide_frame c kind i) (by decide)
  | settleOwn c kind line v =>
    exact State.BoundLaw.of_frame (s := s.advanceTo c v) h (State.settle_frame _ _ _ _) (by decide)
  | settlePeer c kind k line v =>
    exact (State.BoundLaw.of_frame (s := s.advanceTo c v) h (State.settle_frame _ _ _ _) (by decide)).handRecord _ _ _
  | close c ha =>
    have hq := ((hs.plans ha.1).quiet_of_emitted ha.2.2.1).1
    have hr := ((hs.plans ha.1).reach ha c.claimClose).quiet hq.digest
    exact .of_unbound (hr.of_keepsQueue (State.keepsQueue_membershipClose _)).unbound
  | allocate c hc hb =>
    have hq := (hs.plans hc).quiet_of_status (by rw [hb]; decide)
    have hdemand : (s.completeAllocation c).demand = s.demand := s.completeAllocation_frame c .demand (by decide)
    exact .of_unbound (by rw [hdemand]; exact hq.unbound)
  | vote c own ha => exact State.BoundLaw.vote ((hs.plans ha.1).reach ha _) ((hs.plans ha.1).verdict_of_emitted ha.2.2.1) own
  | slotStart c k => exact hsame (State.startSlot_entries _ c k) rfl rfl rfl
  | slotEnd c k => exact State.BoundLaw.engineSlotEnd (s := s.reach c _ _) h c k
  | patternEdge c r e => exact h.of_frame (s.edgeTime_playEdges_frame c r _ _) (by decide)
  | samples c input => exact hsame (s.demand.setFilter_entries input _) rfl rfl rfl
  | arrive c input lows highs cls =>
    exact State.BoundLaw.arrive (hsame (t := s.setFilter input _) (s.demand.setFilter_entries input _) rfl rfl rfl) cls
  | endTransaction => exact h.endTransaction
  | code code => exact h.of_frame (s.completeCode_frame code) (by decide)

theorem StepEffect.boundLaw {s t : State} (he : StepEffect s t) (hl : s.Loaded) (hs : s.Scheduled) (h : s.BoundLaw) : t.BoundLaw := by
  cases he with
  | command _ he => exact he.boundLaw hl hs h
  | clock c => exact h.of_frame (s.clock_frame c) (by decide)
  | bootClock => exact h

end Sys2Proof.Machine

namespace Sys2Proof.Proofs

open Sys2Proof.Machine

/-- Settles O60: binding gives each entry a cell that no other has, of those of the table; until the mark takes every binding away,
entries only leave. -/
theorem stepKeepsBindings : Obligations.StepKeepsBindings := by
  unfold Obligations.StepKeepsBindings
  rintro s t ⟨-, hl, -, -, hs⟩ hb h
  exact step_keeps (P := fun s => s.Loaded ∧ s.Scheduled ∧ s.BoundLaw) (fun _ _ h => h) (fun _ _ h => h)
    (fun _ _ ⟨hl, hs, hb⟩ he => he.boundLaw hl hs hb) ⟨hl, hs, hb⟩ h

end Sys2Proof.Proofs
end

section
/-! Placement (O39 to O42): the order of the claim list, each attempt as R77 and R78 state it, and the law that every attempt keeps. -/

namespace Sys2Proof.Machine

/-! ### The order (R75) -/

theorem ClaimEntry.differs_symm {a b : ClaimEntry} (h : a.differs b) : b.differs a := by
  unfold ClaimEntry.differs at *; omega

theorem ClaimEntry.ahead_asymm {a b : ClaimEntry} (h : a.ahead b) : ¬ b.ahead a := by
  unfold ClaimEntry.ahead at *; omega

/-! ### Groups and free positions (R72, R77) -/

/-- The claim list gives one group for each station. -/
theorem groupIn_eq_some {list : List ClaimEntry} (hf : claimListFormed list) (station g : Nat) :
    groupIn list station = some g ↔ ∃ e ∈ list, e.station = station ∧ e.group = g := by
  obtain ⟨-, hone⟩ := hf
  unfold groupIn
  constructor
  · intro h
    obtain ⟨e, he, rfl⟩ := Option.map_eq_some_iff.mp h
    exact ⟨e, List.mem_of_find?_eq_some he, by simpa using List.find?_some he, rfl⟩
  · rintro ⟨e, he, rfl, rfl⟩
    cases hfind : list.find? (fun x => x.station == e.station) with
    | none => exact absurd (beq_self_eq_true e.station) (List.find?_eq_none.mp hfind e he)
    | some x =>
      have hx : x.station = e.station := by simpa using List.find?_some hfind
      exact congrArg some (hone x (List.mem_of_find?_eq_some hfind) e he hx)

theorem mem_slot_iff (t : Table) (k : Nat) (x : Cell) : some x ∈ t.getD k [] ↔ ∃ c, t.cell k c = some x := by
  unfold Table.cell
  rw [List.mem_iff_getElem?]
  refine exists_congr fun c => ?_
  rw [List.getD_eq_getElem?_getD (l := t.getD k [])]
  cases (t.getD k [])[c]? <;> simp

theorem slotHasGroup_iff {list : List ClaimEntry} (hf : claimListFormed list) (t : Table) (k g : Nat) :
    slotHasGroup list t k g = true ↔ ∃ c x, t.cell k c = some x ∧ ∃ e ∈ list, e.station = x.station ∧ e.group = g := by
  unfold slotHasGroup
  rw [List.any_eq_true]
  constructor
  · rintro ⟨y, hy, h⟩
    cases y with
    | none => cases h
    | some x =>
      obtain ⟨c, hc⟩ := (mem_slot_iff t k x).mp hy
      exact ⟨c, x, hc, (groupIn_eq_some hf _ _).mp (by simpa using h)⟩
  · rintro ⟨c, x, hc, he⟩
    exact ⟨some x, (mem_slot_iff t k x).mpr ⟨c, hc⟩, by simpa using (groupIn_eq_some hf _ _).mpr he⟩

theorem positionFree_iff {list : List ClaimEntry} (hf : claimListFormed list) (slots : Nat) (t : Table) (e : ClaimEntry)
    (k ch : Nat) : positionFree list slots t e k ch = true ↔ t.free list slots e k ch := by
  unfold positionFree Table.free
  simp only [Bool.and_eq_true, decide_eq_true_eq, List.all_eq_true, List.mem_range, Option.isNone_iff_eq_none, Bool.not_eq_true',
    Bool.eq_false_iff, ne_eq, slotHasGroup_iff hf]
  refine and_congr_right fun _ => forall₂_congr fun i _ => and_congr_right fun _ => ?_
  constructor
  · exact fun h c x hc e' he' hs hg => h ⟨c, x, hc, e', he', hs, hg⟩
  · rintro h ⟨c, x, hc, e', he', hs, hg⟩
    exact h c x hc e' he' hs hg

/-! ### The first position (R77) -/

theorem mem_positions (slots channels k ch : Nat) : (k, ch) ∈ positions slots channels ↔ k < slots ∧ ch < channels := by
  simp [positions]

theorem positions_pairwise (slots channels : Nat) :
    (positions slots channels).Pairwise (fun p q => p.1 < q.1 ∨ (p.1 = q.1 ∧ p.2 < q.2)) := by
  unfold positions
  refine List.pairwise_flatMap.mpr ⟨fun k _ => ?_, List.pairwise_lt_range.imp fun hlt p hp q hq => ?_⟩
  · exact List.pairwise_map.mpr (List.pairwise_lt_range.imp fun hlt => .inr ⟨rfl, hlt⟩)
  · obtain ⟨_, -, rfl⟩ := List.mem_map.mp hp
    obtain ⟨_, -, rfl⟩ := List.mem_map.mp hq
    exact .inl hlt

theorem findPosition_of_some {list : List ClaimEntry} (hf : claimListFormed list) {slots channels : Nat} {t : Table} {e : ClaimEntry}
    {k ch : Nat} (h : findPosition list slots channels t e = some (k, ch)) : t.firstFree list slots channels e k ch := by
  unfold findPosition at h
  obtain ⟨hk, hch⟩ := (mem_positions ..).mp (List.mem_of_find?_eq_some h)
  have hfree := (positionFree_iff hf ..).mp (by simpa using List.find?_some h)
  refine ⟨hk, hch, hfree, fun k' ch' hch' hlt hfree' => ?_⟩
  have hmem : (k', ch') ∈ positions slots channels := (mem_positions ..).mpr ⟨by omega, hch'⟩
  obtain ⟨-, before, after, hlist, hnone⟩ := List.find?_eq_some_iff_append.mp h
  have hpair := positions_pairwise slots channels
  rw [hlist] at hmem hpair
  rcases List.mem_append.mp hmem with hm | hm
  · have := hnone _ hm
    rw [(positionFree_iff hf slots t e k' ch').mpr hfree'] at this
    cases this
  · obtain ⟨-, hafter, -⟩ := List.pairwise_append.mp hpair
    rcases List.mem_cons.mp hm with he | hm
    · cases he
      omega
    · have := (List.pairwise_cons.mp hafter).1 _ hm
      dsimp only at this
      omega

theorem findPosition_of_none {list : List ClaimEntry} (hf : claimListFormed list) {slots channels : Nat} {t : Table} {e : ClaimEntry}
    (hs : 1 ≤ e.span) (h : findPosition list slots channels t e = none) {k ch : Nat} (hch : ch < channels) :
    ¬ t.free list slots e k ch := by
  intro hfree
  have hk : k < slots := by have := hfree.1; omega
  have := List.find?_eq_none.mp h (k, ch) ((mem_positions ..).mpr ⟨hk, hch⟩)
  exact this ((positionFree_iff hf ..).mpr hfree)

/-! ### The cells written (R78) -/

theorem Table.sized_slot {t : Table} {slots channels k : Nat} (h : t.sized slots channels) (hk : k < slots) :
    (t.getD k []).length = channels := by
  obtain ⟨hl, hs⟩ := h
  rw [List.getD_eq_getElem?_getD, List.getElem?_eq_getElem (by omega)]
  exact hs _ (List.getElem_mem _)

theorem Table.cell_fill_of_sized {t : Table} {slots channels k ch : Nat} (h : t.sized slots channels) (hk : k < slots)
    (hch : ch < channels) (x : Cell) (k' c' : Nat) :
    (t.fill k ch x).cell k' c' = if k' = k ∧ c' = ch then some x else t.cell k' c' := by
  rw [Table.cell_fill]
  refine if_congr ?_ rfl rfl
  rw [Table.sized_slot h hk, h.1]
  exact ⟨fun ⟨a, b, _⟩ => ⟨a, b⟩, fun ⟨a, b⟩ => ⟨a, b, hk, hch⟩⟩

theorem map_length_of_sized {t u : Table} {slots channels : Nat} (ht : t.sized slots channels) (hu : u.sized slots channels) :
    u.map List.length = t.map List.length := by
  have hrep {t : Table} (h : t.sized slots channels) : t.map List.length = List.replicate slots channels := by
    refine List.eq_replicate_iff.mpr ⟨(List.length_map ..).trans h.1, fun n hn => ?_⟩
    obtain ⟨slot, hs, rfl⟩ := List.mem_map.mp hn
    exact h.2 slot hs
  rw [hrep ht, hrep hu]

theorem writeExposure_writtenAt {t : Table} {slots channels : Nat} (h : t.sized slots channels) {e : ClaimEntry} {k ch : Nat}
    (hs : e.span = 1 ∨ e.span = 2) (hk : k + e.span - 1 < slots) (hch : ch < channels) :
    t.writtenAt (writeExposure t e k ch) e k ch := by
  refine ⟨map_length_of_sized h (writeExposure_sized h e k ch), fun k' c' => ?_⟩
  have hk0 : k < slots := by omega
  unfold writeExposure
  dsimp only
  split
  · next h2 =>
    rw [Table.cell_fill_of_sized (Table.sized_fill h k ch _) (by omega) hch, Table.cell_fill_of_sized h hk0 hch]
    simp only [h2, true_and]
    split
    · next h1 => rw [if_neg (by omega)]
    · rfl
  · next h2 =>
    rw [Table.cell_fill_of_sized h hk0 hch]
    simp only [h2, false_and, if_false]

/-! ### Placement as the relation (R77 to R79) -/

/-- The attempts that an entry has left place it, before the entries after it. -/
theorem Placed.placeEntry {list : List ClaimEntry} (hf : claimListFormed list) {slots channels : Nat} (attempts : Nat) {t t' : Table}
    {e : ClaimEntry} {rest out : List ClaimEntry} (ht : t.sized slots channels) (hs : e.span = 1 ∨ e.span = 2)
    (hcount : e.granted + attempts = e.count)
    (h : Placed list slots channels (placeEntry list slots channels attempts t e).1 rest t' out) :
    Placed list slots channels t (e :: rest) t' ((placeEntry list slots channels attempts t e).2 :: out) := by
  induction attempts generalizing t e with
  | zero => exact .finish _ _ _ _ _ (by omega) h
  | succ n ih =>
    cases hp : findPosition list slots channels t e with
    | none =>
      simp only [Machine.placeEntry, hp] at h ⊢
      exact .fail _ _ _ _ _ (by omega) (fun k ch hch => findPosition_of_none hf (by omega) hp hch) h
    | some p =>
      obtain ⟨k, ch⟩ := p
      have hfirst := findPosition_of_some hf hp
      simp only [Machine.placeEntry, hp] at h ⊢
      exact .grant _ _ _ _ _ _ k ch (by omega) hfirst (writeExposure_writtenAt ht hs hfirst.2.2.1.1 hfirst.2.1)
        (ih (writeExposure_sized ht e k ch) hs (by dsimp only; omega) h)

theorem Placed.placeAll {list : List ClaimEntry} (hf : claimListFormed list) {slots channels : Nat} (l : List ClaimEntry) {t : Table}
    (ht : t.sized slots channels) (hl : ∀ e ∈ l, (e.span = 1 ∨ e.span = 2) ∧ e.granted = 0) :
    Placed list slots channels t l (placeAll list slots channels t l).1 (placeAll list slots channels t l).2 := by
  induction l generalizing t with
  | nil => exact .nil t
  | cons e l ih =>
    obtain ⟨⟨hs, hg⟩, hl⟩ := List.forall_mem_cons.mp hl
    exact Placed.placeEntry hf e.count ht hs (by omega) (ih (placeEntry_sized e.count e ht) hl)

theorem Placed.allocate {list : List ClaimEntry} (hf : claimListFormed list) (slots channels : Nat) :
    Placed list slots channels (emptyTable slots channels) list (allocate slots channels list).1 (allocate slots channels list).2 :=
  .placeAll hf list ⟨emptyTable_length .., length_of_mem_emptyTable⟩ fun e he => ⟨(hf.1 e he).1, (hf.1 e he).2.1⟩

/-- What becomes of each entry: only granted and unmet change, and together they are its count. -/
theorem placeEntry_entry {list : List ClaimEntry} {slots channels : Nat} (attempts : Nat) {t : Table} {e : ClaimEntry}
    (hu : e.unmet = 0) (hcount : e.granted + attempts = e.count) :
    (placeEntry list slots channels attempts t e).2.granted + (placeEntry list slots channels attempts t e).2.unmet = e.count ∧
    { (placeEntry list slots channels attempts t e).2 with granted := 0, unmet := 0 } = { e with granted := 0, unmet := 0 } := by
  induction attempts generalizing t e with
  | zero => exact ⟨by show e.granted + e.unmet = e.count; omega, rfl⟩
  | succ n ih =>
    cases hp : findPosition list slots channels t e with
    | none =>
      simp only [placeEntry, hp]
      exact ⟨by omega, trivial⟩
    | some p =>
      simp only [placeEntry, hp]
      exact ih (e := { e with granted := e.granted + 1 }) hu (by dsimp only; omega)

theorem ClaimEntry.reset_eq {a : ClaimEntry} (hg : a.granted = 0) (hu : a.unmet = 0) :
    { a with granted := 0, unmet := 0 } = a := by
  obtain ⟨_, _, _, _, _, _, _, _, _⟩ := a
  cases hg
  cases hu
  rfl

theorem placeAll_entries {list : List ClaimEntry} {slots channels : Nat} (l : List ClaimEntry) (t : Table)
    (hl : ∀ e ∈ l, e.granted = 0 ∧ e.unmet = 0) :
    (placeAll list slots channels t l).2.length = l.length ∧
    ∀ (i : Nat) (e e' : ClaimEntry), l[i]? = some e → (placeAll list slots channels t l).2[i]? = some e' →
      e'.granted + e'.unmet = e.count ∧ { e' with granted := 0, unmet := 0 } = e := by
  induction l generalizing t with
  | nil => exact ⟨rfl, nofun⟩
  | cons a l ih =>
    obtain ⟨⟨hg, hu⟩, hl⟩ := List.forall_mem_cons.mp hl
    obtain ⟨hlen, hentry⟩ := ih (placeEntry list slots channels a.count t a).1 hl
    refine ⟨congrArg (· + 1) hlen, fun i e e' he he' => ?_⟩
    cases i with
    | succ i => exact hentry i e e' he he'
    | zero =>
      cases he
      cases he'
      obtain ⟨hsum, hsame⟩ := placeEntry_entry (list := list) (slots := slots) (channels := channels) a.count (t := t) hu
        (by omega)
      exact ⟨hsum, hsame.trans (ClaimEntry.reset_eq hg hu)⟩

/-- A single exposure that fits has its place in an empty table. -/
theorem allocate_single {slots channels : Nat} {e : ClaimEntry} (hf : claimListFormed [e]) (hch : 1 ≤ channels)
    (hs : e.span ≤ slots) (hc : e.count = 1) : ((allocate slots channels [e]).2.map (·.granted)) = [1] := by
  obtain ⟨hspan, hg, -⟩ := hf.1 e (List.mem_singleton_self e)
  have hfree : (emptyTable slots channels).free [e] slots e 0 0 :=
    ⟨by omega, fun i _ => ⟨emptyTable_cell .., fun c x hx => by rw [emptyTable_cell] at hx; cases hx⟩⟩
  cases hp : findPosition [e] slots channels (emptyTable slots channels) e with
  | none => exact absurd hfree (findPosition_of_none hf (by omega) hp hch)
  | some p => simp only [allocate, placeAll, hc, placeEntry, hp, hg, List.map_cons, List.map_nil]

/-! ### The law of the table (R67) -/

theorem cellGroup_of_station {list : List ClaimEntry} (hf : claimListFormed list) {e : ClaimEntry} (cls part : Nat) {e' : ClaimEntry}
    (he : e' ∈ list) (hs : e'.station = e.station) (hg : e'.group = e.group) :
    cellGroup list (some { station := e.station, cls := cls, part := part }) = some e.group :=
  (groupIn_eq_some hf _ _).mpr ⟨e', he, hs, hg⟩

/-- The cells of an exposure, slot by slot. -/
theorem Table.writtenAt_new {t u : Table} {e : ClaimEntry} {k ch : Nat} (hs : e.span = 1 ∨ e.span = 2) (hw : t.writtenAt u e k ch)
    {i : Nat} (hi : i < e.span) : u.cell (k + i) ch = some { station := e.station, cls := e.cls, part := i } := by
  obtain ⟨-, hcell⟩ := hw
  rw [hcell]
  rcases (show i = 0 ∨ (i = 1 ∧ e.span = 2) by omega) with rfl | ⟨rfl, h2⟩
  · rw [if_pos ⟨rfl, rfl⟩]
  · rw [if_neg (by omega), if_pos ⟨h2, rfl, rfl⟩]

theorem Table.writtenAt_old {t u : Table} {e : ClaimEntry} {k ch : Nat} (hs : e.span = 1 ∨ e.span = 2) (hw : t.writtenAt u e k ch)
    {k' c' : Nat} (h : ∀ i, i < e.span → ¬ (k' = k + i ∧ c' = ch)) : u.cell k' c' = t.cell k' c' := by
  obtain ⟨-, hcell⟩ := hw
  rw [hcell, if_neg fun hk : k' = k ∧ c' = ch => h 0 (by omega) hk, if_neg fun ⟨h2, hk⟩ => h 1 (by omega) hk]

/-- A cell of an exposure, or one that it leaves as it was. -/
theorem written_or_not (e : ClaimEntry) (k ch k' c' : Nat) :
    (∃ i, i < e.span ∧ k' = k + i ∧ c' = ch) ∨ ∀ i, i < e.span → ¬ (k' = k + i ∧ c' = ch) := by
  by_cases h : ∃ i, i < e.span ∧ k' = k + i ∧ c' = ch
  · exact .inl h
  · exact .inr fun i hi hk => h ⟨i, hi, hk⟩

/-- In the slots of an exposure written where it can stand no other cell is of its group. -/
theorem Table.written_group {list : List ClaimEntry} (hf : claimListFormed list) {slots : Nat} {t u : Table} {e e' : ClaimEntry}
    {k ch : Nat} (hs : e.span = 1 ∨ e.span = 2) (he : e' ∈ list) (hst : e'.station = e.station) (hg : e'.group = e.group)
    (hfree : t.free list slots e k ch) (hw : t.writtenAt u e k ch) {i c : Nat} (hi : i < e.span) (hc : c ≠ ch)
    (hx : u.cell (k + i) c ≠ none) : cellGroup list (u.cell (k + i) ch) ≠ cellGroup list (u.cell (k + i) c) := by
  have hold : u.cell (k + i) c = t.cell (k + i) c := Table.writtenAt_old hs hw fun _ _ h => hc h.2
  obtain ⟨x, hx⟩ := Option.ne_none_iff_exists'.mp hx
  rw [Table.writtenAt_new hs hw hi, cellGroup_of_station hf e.cls i he hst hg, hx]
  intro heq
  obtain ⟨e'', he'', hst', hg'⟩ := (groupIn_eq_some hf x.station e.group).mp heq.symm
  exact (hfree.2 i hi).2 c x (hold ▸ hx) e'' he'' hst' hg'

/-- An exposure written where it can stand keeps the law. -/
theorem Table.lawful_write {list : List ClaimEntry} (hf : claimListFormed list) {slots : Nat} {t u : Table} {e e' : ClaimEntry}
    {k ch : Nat} (hs : e.span = 1 ∨ e.span = 2) (he : e' ∈ list) (hst : e'.station = e.station) (hg : e'.group = e.group)
    (hfree : t.free list slots e k ch) (hw : t.writtenAt u e k ch) (h : t.lawful list) : u.lawful list := by
  obtain ⟨hgroups, hparts⟩ := h
  constructor
  · intro k' c c' hne hc hc'
    rcases written_or_not e k ch k' c with ⟨i, hi, rfl, rfl⟩ | hn
    · exact Table.written_group hf hs he hst hg hfree hw hi hne.symm hc'
    · rcases written_or_not e k ch k' c' with ⟨i, hi, rfl, rfl⟩ | hn'
      · exact (Table.written_group hf hs he hst hg hfree hw hi hne hc).symm
      · rw [Table.writtenAt_old hs hw hn, Table.writtenAt_old hs hw hn'] at *
        exact hgroups k' c c' hne hc hc'
  · intro k' c x hx hp
    rcases written_or_not e k ch k' c with ⟨i, hi, rfl, rfl⟩ | hn
    · rw [Table.writtenAt_new hs hw hi] at hx
      cases hx
      obtain rfl : i = 1 := hp
      exact ⟨by omega, Table.writtenAt_new hs hw (i := 0) (by omega)⟩
    · rw [Table.writtenAt_old hs hw hn] at hx
      obtain ⟨hk, hprev⟩ := hparts k' c x hx hp
      refine ⟨hk, (Table.writtenAt_old hs hw fun i hi ⟨h1, h2⟩ => ?_).trans hprev⟩
      rw [h1, h2, (hfree.2 i hi).1] at hprev
      cases hprev

theorem Placed.lawful {list : List ClaimEntry} (hf : claimListFormed list) {slots channels : Nat} {t t' : Table}
    {l out : List ClaimEntry} (hp : Placed list slots channels t l t' out)
    (hl : ∀ e ∈ l, (e.span = 1 ∨ e.span = 2) ∧ ∃ e' ∈ list, e'.station = e.station ∧ e'.group = e.group) (h : t.lawful list) :
    t'.lawful list := by
  induction hp with
  | nil => exact h
  | grant t u t' e rest out k ch _ hfirst hw _ ih =>
    obtain ⟨⟨hs, e', he', hst, hg⟩, hrest⟩ := List.forall_mem_cons.mp hl
    refine ih (List.forall_mem_cons.mpr ⟨⟨hs, e', he', hst, hg⟩, hrest⟩) ?_
    exact Table.lawful_write hf hs he' hst hg hfirst.2.2.1 hw h
  | finish t t' e rest out _ _ ih => exact ih (List.forall_mem_cons.mp hl).2 h
  | fail t t' e rest out _ _ _ ih => exact ih (List.forall_mem_cons.mp hl).2 h

end Sys2Proof.Machine

namespace Sys2Proof.Proofs

open Sys2Proof.Machine

/-- Settles O39: in an empty table the law holds, and each attempt writes where it keeps it. -/
theorem allocationKeepsTheLaw : Obligations.AllocationKeepsTheLaw := by
  unfold Obligations.AllocationKeepsTheLaw
  intro slots channels list hf
  refine (Placed.allocate hf slots channels).lawful hf (fun e he => ⟨(hf.1 e he).1, e, he, rfl, rfl⟩) ?_
  exact ⟨fun k c c' _ hc => absurd (emptyTable_cell ..) hc, fun k c x hx => by rw [emptyTable_cell] at hx; cases hx⟩

/-- Settles O40. -/
theorem grantedPlusUnmetIsCount : Obligations.GrantedPlusUnmetIsCount := by
  unfold Obligations.GrantedPlusUnmetIsCount
  intro slots channels list hf
  obtain ⟨hlen, hentry⟩ := placeAll_entries (list := list) (slots := slots) (channels := channels) list (emptyTable slots channels)
    fun e he => (hf.1 e he).2
  refine ⟨.allocate hf slots channels, hlen, fun i e e' he he' => ?_⟩
  obtain ⟨hsum, hsame⟩ := hentry i e e' he he'
  refine ⟨hsum, hsame, fun hch hs hl hc => ?_⟩
  subst hl
  cases i with
  | succ i => cases he
  | zero =>
    have hone := congrArg (fun l : List Nat => l[0]?) (allocate_single hf hch hs hc)
    simp only [List.getElem?_map, he'] at hone
    exact Option.some.inj hone

/-- Settles O41: a list ordered by a strict order is determined by its members. -/
theorem placementOrderIsTotal : Obligations.PlacementOrderIsTotal := by
  unfold Obligations.PlacementOrderIsTotal
  intro l l' hp hd
  have hd' : l'.Pairwise ClaimEntry.differs := (hp.pairwise_iff ClaimEntry.differs_symm).mp hd
  have hperm : (orderEntries l).Perm (orderEntries l') := (orderEntries_perm l).trans (hp.trans (orderEntries_perm l').symm)
  refine ⟨?_, orderEntries_perm l, orderEntries_pairwise l hd⟩
  exact hperm.eq_of_pairwise (fun a b _ _ h h' => absurd h' (ClaimEntry.ahead_asymm h)) (orderEntries_pairwise l hd)
    (orderEntries_pairwise l' hd')

/-! ### The completion of the table (R80, R81, R86, R87) -/

theorem exec_allocationComplete_of_building {s : State} {c : Settings} (hc : s.cfg = some c) (hr : s.timer.mode = .running)
    (hb : s.alloc.status = .building) : exec .allocationComplete s = .next (s.completeAllocation c) := by
  have ht : s.timing ∧ s.alloc.status = .building := ⟨decide_eq_true hr, hb⟩
  simp only [exec, execAllocationComplete, hc, if_pos ht]

/-- Settles O42. -/
theorem allocationCompletes : Obligations.AllocationCompletes := by
  unfold Obligations.AllocationCompletes
  intro s c hc hr hb hm
  refine .of_eq (exec_allocationComplete_of_building hc hr hb) ?_
  simp only [State.completeAllocation, if_pos hm]
  refine ⟨rfl, rfl, rfl, ?_, ?_⟩
  · have hcell : cellByte = fun x : Option Cell => match x with
        | none => 0xFF
        | some y => BitVec.ofNat 8 (y.station * 8 + y.cls * 2 + y.part) := by
      funext x
      cases x <;> rfl
    simp only [digestOf, digestInput, tableBytes, halfBytes, hcell, List.cons_append, List.nil_append, State.count] <;> rfl
  · intro b hb
    cases b <;> simp_all [Block.same, State.count]

end Sys2Proof.Proofs
end

section
/-! The vote, the slots of a frame, the edges of a pattern and the trigger inputs: what each event makes of the state. -/

namespace Sys2Proof.Machine

open Sys2Proof.Proofs

/-! ### The vote (R91–R94) -/

theorem exec_digestPhaseClose_of_member {s : State} {c : Settings} {d : Half} (h : s.awaits c c.placeDigestClose)
    (hm : s.station = .member) (hd : s.agree.ownDigest = some d) :
    exec .digestPhaseClose s = .next ((s.reach c c.placeDigestClose c.digestClose).vote c d) := by
  simp only [exec, execDigestPhaseClose, h.1, State.phase_of_awaits h, State.reach_station, State.reach_agree, hm, hd]

theorem exec_digestPhaseClose_of_not_member {s : State} {c : Settings} (h : s.awaits c c.placeDigestClose)
    (hm : s.station ≠ .member) : exec .digestPhaseClose s = .next (s.reach c c.placeDigestClose c.digestClose) := by
  simp only [exec, execDigestPhaseClose, h.1, State.phase_of_awaits h, State.reach_station]
  split
  · next hm' _ => exact absurd hm' hm
  · rfl

theorem State.voteVerdict_eq_expose (s : State) (d : Half) :
    s.voteVerdict d = .expose ↔ s.alloc.view.length < 2 * s.agreeing d ∧ s.agree.adoption = none := by
  unfold State.voteVerdict
  split
  · next h => exact ⟨fun _ => h, fun _ => rfl⟩
  · next h => exact ⟨nofun, fun h' => absurd h' h⟩

theorem State.voteVerdict_of_not {s : State} {d : Half}
    (h : ¬ (s.alloc.view.length < 2 * s.agreeing d ∧ s.agree.adoption = none)) : s.voteVerdict d = .holdoff := if_neg h

theorem State.vote_of_expose {s : State} {d : Half} (c : Settings) (h : s.voteVerdict d = .expose) : s.vote c d =
    ({ s with agree := { s.agree with verdict := .expose, published := s.publication d .expose } } : State).bind c := by
  simp only [State.vote, h, if_true]

theorem State.vote_of_holdoff {s : State} {d : Half} (c : Settings) (h : s.voteVerdict d = .holdoff) : s.vote c d =
    (({ s with agree := { s.agree with verdict := .holdoff, published := s.publication d .holdoff } } : State).count
      .holdoffs 1).offer (s.holdoffRecord d) := by
  simp only [State.vote, h, reduceCtorEq, if_false]

/-! ### The start of a slot (R109, R120, R121) -/

theorem exec_slotStart_of_awaits {s : State} {c : Settings} {k : Nat} (h : s.awaits c (c.placeSlotStart k)) (hk : k < c.slots) :
    exec (.slotStart k) s = .next ((s.reach c (c.placeSlotStart k) (c.slotStartAt k)).startSlot c k) := by
  simp only [exec, execSlotStart, h.1, if_pos hk, State.phase_of_awaits h]
  rfl

theorem State.engineSlotStart_of_own {s : State} (c : Settings) {k ch : Nat} {x : Cell} (hi : s.engine.mode = .idle)
    (hv : s.agree.verdict = .expose) (ho : s.ownCell k = some (ch, x)) (hx : x.part = 0) : s.engineSlotStart c k =
      { s.engine with gap := s.engine.justEnded, justEnded := false }.play c (c.startRecord k ch x.cls s.timer.value) 0 0 := by
  simp only [State.engineSlotStart, hi, hv, ho, if_pos hx]

/-- Without an IDLE engine, EXPOSE and an own part-0 cell in the slot no exposure starts. -/
theorem State.engineSlotStart_of_other {s : State} (c : Settings) {k : Nat}
    (h : ∀ ch x, s.engine.mode = .idle → s.agree.verdict = .expose → s.ownCell k = some (ch, x) → x.part ≠ 0) :
    s.engineSlotStart c k = s.engine := by
  unfold State.engineSlotStart
  split
  · next ch x hi hv ho => rw [if_neg (h ch x hi hv ho)]
  · rfl

/-- The edges due at the origin: those of offset 0 and fine delay 0. -/
theorem dueEdges_origin (c : Settings) {r : RunningPattern} (h : r.next = 0) : dueEdges c r 0 0 =
    (c.patternEdges r.pattern).takeWhile (fun e => e.offset == 0 && e.fine == 0) := by
  have hdue : (fun e : Edge => e.dueBy 0 0) = fun e => e.offset == 0 && e.fine == 0 := by
    funext e
    simp only [Edge.dueBy, Nat.not_lt_zero, false_or, Nat.le_zero_eq, Bool.decide_and]
    rfl
  rw [dueEdges, h, List.drop_zero, hdue]


theorem PatternEngine.elapse_justEnded_of {e : PatternEngine} {n : Nat} (h : 0 < n ∨ e.justEnded = false) :
    (e.elapse n).justEnded = false := by
  rcases Nat.eq_zero_or_pos n with rfl | hn
  · exact h.resolve_left (Nat.lt_irrefl 0)
  · rw [e.elapse_of_pos n hn]

theorem PatternEngine.elapse_gap_of {e : PatternEngine} {n : Nat} (h : 0 < n ∨ e.gap = false) : (e.elapse n).gap = false := by
  rcases Nat.eq_zero_or_pos n with rfl | hn
  · exact h.resolve_left (Nat.lt_irrefl 0)
  · rw [e.elapse_of_pos n hn]

/-- The pins of a running exposure show it (R118). -/
theorem State.exposing_of_running {s : State} {r : RunningPattern} (hm : s.engine.mode = .running r) (hg : s.engine.gap = false) :
    s.exposing = some true ∧ s.chsel = some r.channel ∧
      s.chselPins = some (decide (r.channel % 2 = 1), decide (r.channel / 2 % 2 = 1)) := by
  have hch : s.chsel = some r.channel := by simp only [State.chsel, hm, hg, Bool.false_eq_true, if_false]
  refine ⟨by simp only [State.exposing, hm, hg, Bool.not_false], hch, ?_⟩
  simp only [State.chselPins, hch, Option.map_some, Nat.testBit_succ, Nat.testBit_zero]

/-- In the REFCLK period of rest between two exposures they rest (R126). -/
theorem State.exposing_of_gap {s : State} {r : RunningPattern} (hm : s.engine.mode = .running r) (hg : s.engine.gap = true) :
    s.exposing = some false ∧ s.chsel = some 0 ∧ s.chselPins = some (false, false) := by
  have hch : s.chsel = some 0 := by simp only [State.chsel, hm, hg, if_true]
  refine ⟨by simp only [State.exposing, hm, hg, Bool.not_true], hch, ?_⟩
  simp only [State.chselPins, hch, Option.map_some, Nat.zero_testBit]

theorem State.exposing_of_idle {s : State} (hm : s.engine.mode = .idle) :
    s.exposing = some false ∧ s.chsel = some 0 ∧ s.chselPins = some (false, false) := by
  have hch : s.chsel = some 0 := by simp only [State.chsel, hm]
  refine ⟨by simp only [State.exposing, hm], hch, ?_⟩
  simp only [State.chselPins, hch, Option.map_some, Nat.zero_testBit]

/-! ### The end of a slot (R124, R125) -/

theorem exec_slotEnd_of_awaits {s : State} {c : Settings} {k : Nat} (h : s.awaits c (c.placeSlotEnd k)) (hk : k < c.slots) :
    exec (.slotEnd k) s = .next ((s.reach c (c.placeSlotEnd k) (c.slotEndAt k)).engineSlotEnd c k) := by
  simp only [exec, execSlotEnd, h.1, if_pos hk, State.phase_of_awaits h]

theorem State.engineSlotEnd_of_last {s : State} (c : Settings) {k : Nat} {r : RunningPattern} (hm : s.engine.mode = .running r)
    (h : r.slot + r.span = k + 1) : s.engineSlotEnd c k = s.endExposure c r true := by
  have hlast : r.lastSlot ≤ k := by unfold RunningPattern.lastSlot; omega
  simp only [State.engineSlotEnd, hm, if_pos hlast]

theorem State.engineSlotEnd_of_inner {s : State} (c : Settings) {k : Nat} {r : RunningPattern} (hm : s.engine.mode = .running r)
    (hs : r.slot = k) (h2 : r.span = 2) : s.engineSlotEnd c k =
      { s with engine := { s.engine with mode := .running { r with second := true } } } := by
  have hlast : ¬ r.lastSlot ≤ k := by unfold RunningPattern.lastSlot; omega
  simp only [State.engineSlotEnd, hm, if_neg hlast, if_pos hs.le]

theorem State.engineSlotEnd_of_idle {s : State} (c : Settings) (k : Nat) (hm : s.engine.mode = .idle) : s.engineSlotEnd c k = s := by
  simp only [State.engineSlotEnd, hm]

theorem DemandQueue.itemAt_some {q : DemandQueue} {slot channel : Nat} {it : ExposureItem} (h : q.itemAt slot channel = some it) :
    it.slot = slot ∧ it.channel = channel := by
  have := List.find?_some h
  simpa using this

/-! ### The edges of a pattern (R122, R123) -/

theorem applyEdge_getLsbD (levels : Byte) (e : Edge) {i : Nat} (hi : i < 8) :
    (applyEdge levels e).getLsbD i = if e.output = i then e.level else levels.getLsbD i := by
  have hbit : (1#8 <<< e.output).getLsbD i = decide (e.output = i) := by
    simp only [BitVec.getLsbD_shiftLeft, BitVec.getLsbD_one, hi, decide_true, Bool.true_and, ← decide_not, ← Bool.decide_and,
      Nat.zero_lt_succ, decide_eq_decide]
    omega
  unfold applyEdge
  split
  · next hl => rw [BitVec.getLsbD_or, hbit, hl]; split <;> simp_all
  · next hl => rw [BitVec.getLsbD_and, BitVec.getLsbD_not, hbit]; split <;> simp_all

theorem foldl_applyEdge_of_unnamed {l : List Edge} {i : Nat} (hi : i < 8) (h : ∀ e ∈ l, e.output ≠ i) (levels : Byte) :
    (l.foldl applyEdge levels).getLsbD i = levels.getLsbD i := by
  induction l generalizing levels with
  | nil => rfl
  | cons e l ih =>
    obtain ⟨he, hl⟩ := List.forall_mem_cons.mp h
    rw [List.foldl_cons, ih hl, applyEdge_getLsbD levels e hi, if_neg he]

/-- An output takes the level of the last edge that names it. -/
theorem foldl_applyEdge_of_last {l : List Edge} {m : Nat} {e : Edge} (hm : l[m]? = some e) (he : e.output < 8)
    (h : ∀ m' e', m < m' → l[m']? = some e' → e'.output ≠ e.output) (levels : Byte) :
    (l.foldl applyEdge levels).getLsbD e.output = e.level := by
  obtain ⟨hlt, hget⟩ := List.getElem?_eq_some_iff.mp hm
  have hsplit : l = l.take m ++ e :: l.drop (m + 1) := by
    rw [← hget, ← List.drop_eq_getElem_cons hlt, List.take_append_drop]
  have hpost : ∀ e' ∈ l.drop (m + 1), e'.output ≠ e.output := by
    intro e' he'
    obtain ⟨j, hj⟩ := List.mem_iff_getElem?.mp he'
    rw [List.getElem?_drop] at hj
    exact h _ e' (by omega) hj
  rw [hsplit, List.foldl_append, List.foldl_cons, foldl_applyEdge_of_unnamed he hpost, applyEdge_getLsbD _ _ he, if_pos rfl]

/-- The leading entries that pass are the first `n`, where these do and the next does not. -/
theorem takeWhile_eq_take {α : Type} {p : α → Bool} {n : Nat} {l : List α} (h : ∀ i, i < n → ∃ a, l[i]? = some a ∧ p a = true)
    (hn : ∀ a, l[n]? = some a → p a = false) : l.takeWhile p = l.take n := by
  induction n generalizing l with
  | zero =>
    cases l with
    | nil => rfl
    | cons a l => rw [List.takeWhile_cons, hn a rfl]; rfl
  | succ n ih =>
    obtain ⟨a, ha, hp⟩ := h 0 (Nat.succ_pos n)
    cases l with
    | nil => cases ha
    | cons b l =>
      cases ha
      rw [List.takeWhile_cons, hp, if_pos rfl, List.take_succ_cons, ih (fun i hi => h (i + 1) (by omega)) hn]

/-- The edges of a time that remain, where those before it are applied and the one after them is later. -/
theorem dueEdges_eq_take {c : Settings} {r : RunningPattern} {offset fine n : Nat}
    (h : ∀ m, r.next ≤ m → m < r.next + n →
      ∃ e, (c.patternEdges r.pattern)[m]? = some e ∧ e.offset = offset ∧ e.fine = fine ∧ e.output < 8)
    (hn : ∀ e, (c.patternEdges r.pattern)[r.next + n]? = some e → offset < e.offset ∨ (offset = e.offset ∧ fine < e.fine)) :
    dueEdges c r offset fine = ((c.patternEdges r.pattern).drop r.next).take n := by
  refine takeWhile_eq_take (fun i hi => ?_) fun e he => ?_
  · obtain ⟨e, he, ho, hf, -⟩ := h (r.next + i) (by omega) (by omega)
    exact ⟨e, by rw [List.getElem?_drop, he], by simp [Edge.dueBy, ho, hf]⟩
  · rw [List.getElem?_drop] at he
    have := hn e he
    simp only [Edge.dueBy, decide_eq_false_iff_not]
    omega

theorem exec_patternEdge_of_due {s : State} {c : Settings} {r : RunningPattern} {offset fine : Nat} {e : Edge} (hc : s.cfg = some c)
    (hm : s.engine.mode = .running r) (he : (c.patternEdges r.pattern)[r.next]? = some e) (ho : e.offset = offset)
    (hf : e.fine = fine) :
    exec (.patternEdge offset fine) s = .next ((s.edgeTime c r offset fine).playEdges c r offset fine) := by
  have hany : ((c.patternEdges r.pattern).drop r.next).any (fun e => e.offset == offset && e.fine == fine) = true := by
    refine List.any_eq_true.mpr ⟨e, List.mem_iff_getElem?.mpr ⟨0, by rw [List.getElem?_drop]; exact he⟩, ?_⟩
    simp [ho, hf]
  simp only [exec, execPatternEdge, hc, hm, if_pos hany]
  rfl

theorem exec_patternEdge_of_not_due {s : State} {c : Settings} {r : RunningPattern} {offset fine : Nat} (hc : s.cfg = some c)
    (hm : s.engine.mode = .running r)
    (h : ∀ e ∈ (c.patternEdges r.pattern).drop r.next, ¬ (e.offset = offset ∧ e.fine = fine)) :
    exec (.patternEdge offset fine) s = .next s := by
  have hany : ¬ ((c.patternEdges r.pattern).drop r.next).any (fun e => e.offset == offset && e.fine == fine) = true := by
    intro ha
    obtain ⟨e, he, heq⟩ := List.any_eq_true.mp ha
    exact h e he (by simpa using heq)
  simp only [exec, execPatternEdge, hc, hm, if_neg hany]

/-- Where a REFCLK period has passed the rest between two exposures is over (R126). -/
theorem State.advanceClock_gap {s : State} {c : Settings} {v clocks : Nat}
    (h : s.timer.value < (s.advanceClock c v clocks).timer.value ∨
      s.timer.prescaler < (s.advanceClock c v clocks).timer.prescaler ∨ s.engine.gap = false) :
    (s.advanceClock c v clocks).engine.gap = false := by
  unfold State.advanceClock at h ⊢
  dsimp only at h ⊢
  split
  · exact PatternEngine.elapse_gap_of (.inl (Nat.succ_pos 0))
  · next hc =>
    rw [if_neg hc] at h
    refine PatternEngine.elapse_gap_of ?_
    rcases Nat.eq_zero_or_pos (v - s.timer.value) with h0 | hpos
    · refine .inr ?_
      simp only [State.advanceTo_timer, h0, FrameTimer.elapse, if_true] at h
      rcases h with h | h | h
      · split at h <;> omega
      · omega
      · exact h
    · exact .inl hpos

/-! ### Trigger inputs (R103, R161) -/

theorem TrgFilter.eq_of_fields {f g : TrgFilter} (hh : f.high = g.high) (hr : f.run = g.run) : f = g := by
  obtain ⟨_, _⟩ := f
  obtain rfl := hh
  obtain rfl := hr
  rfl

/-- Low samples bring an accepted low level, or find one. -/
theorem TrgFilter.hold_low_high (f : TrgFilter) (d lows : Nat) :
    (f.hold d false lows).high = false ↔ f.high = false ∨ (1 ≤ lows ∧ d ≤ f.run + lows) := by
  unfold TrgFilter.hold
  split
  · next h => simp [h]
  · next h =>
    split
    · next hl => simp [← hl]
    · next hl =>
      have ht : f.high = true := by simpa using hl
      split
      · next hd => simp [hd]; omega
      · next hd => simp [ht, hd]

theorem TrgFilter.hold_low_run (f : TrgFilter) (d lows : Nat) : (f.hold d false lows).run =
    if lows = 0 then f.run else if f.high = true ∧ f.run + lows < d then f.run + lows else 0 := by
  unfold TrgFilter.hold
  split
  · rfl
  · split
    · next hl => simp [← hl]
    · next hl =>
      have ht : f.high = true := by simpa using hl
      split
      · next hd => simp [Nat.not_lt.mpr hd]
      · next hd => simp [ht, Nat.lt_of_not_le hd]

/-- High samples after an accepted high level. -/
theorem TrgFilter.hold_high_of_high {f : TrgFilter} (h : f.high = true) (d highs : Nat) :
    f.hold d true highs = if highs = 0 then f else { f with run := 0 } := by
  unfold TrgFilter.hold
  rw [if_pos h.symm]

/-- High samples after an accepted low level: too few of them go on with the run. -/
theorem TrgFilter.hold_high_of_low {f : TrgFilter} (h : f.high = false) (d highs : Nat) :
    f.hold d true highs = if highs = 0 then f else if d ≤ f.run + highs then { high := true, run := 0 }
      else { f with run := f.run + highs } := by
  unfold TrgFilter.hold
  rw [if_neg (show ¬ true = f.high by rw [h]; decide)]

/-- An arrival: an accepted low level, and then high samples enough (R161). -/
theorem filterPulse_arrives (d : Nat) (f : TrgFilter) (lows highs : Nat) : (filterPulse d f lows highs).2 = true ↔
    (f.hold d false lows).high = false ∧ 1 ≤ highs ∧ d ≤ (f.hold d false lows).run + highs := by
  unfold filterPulse
  dsimp only
  cases hl : (f.hold d false lows).high with
  | true => simp
  | false =>
    rw [TrgFilter.hold_high_of_low hl]
    split
    · next h0 => simp [hl, h0]
    · next h0 =>
      split
      · next hd => simp [hd]; omega
      · next hd => simp [hl, hd]

/-- What the samples of one command leave of the filter (R161). -/
theorem filterPulse_filter (d : Nat) (f : TrgFilter) (lows highs : Nat) :
    ((filterPulse d f lows highs).1.high = true ↔
      (filterPulse d f lows highs).2 = true ∨ (f.hold d false lows).high = true) ∧
    (highs = 0 → (filterPulse d f lows highs).1.run = (f.hold d false lows).run) ∧
    (1 ≤ highs → (f.hold d false lows).high = false → (filterPulse d f lows highs).2 = false →
      (filterPulse d f lows highs).1.run = (f.hold d false lows).run + highs) ∧
    (1 ≤ highs → (filterPulse d f lows highs).2 = true ∨ (f.hold d false lows).high = true →
      (filterPulse d f lows highs).1.run = 0) := by
  unfold filterPulse
  dsimp only
  cases hl : (f.hold d false lows).high with
  | true =>
    rw [TrgFilter.hold_high_of_high hl]
    split
    · next h0 => simp [hl, h0]
    · next h0 => simp [hl, h0]
  | false =>
    rw [TrgFilter.hold_high_of_low hl]
    split
    · next h0 => simp [hl, h0]
    · next h0 =>
      split
      · next hd => simp [h0]
      · next hd => simp [hl, h0]

theorem exec_triggerArrival_of_unloaded {s : State} (h : s.cfg = none) (input : TrgInput) (lows highs : Nat) :
    exec (.triggerArrival input lows highs) s = .next s := by
  simp only [exec, execTriggerArrival, h]

theorem exec_triggerArrival_of_quiet {s : State} {c : Settings} (hc : s.cfg = some c) {input : TrgInput} {lows highs : Nat}
    (h : (filterPulse c.divider (s.demand.filterOf input) lows highs).2 = false ∨ c.classFor input = none) :
    exec (.triggerArrival input lows highs) s =
      .next (s.setFilter input (filterPulse c.divider (s.demand.filterOf input) lows highs).1) := by
  simp only [exec, execTriggerArrival, hc]
  split
  · next ha hcls =>
    rcases h with h | h
    · rw [ha] at h; cases h
    · rw [hcls] at h; cases h
  · rw [State.setFilter, hc]

theorem exec_triggerArrival_of_arrival {s : State} {c : Settings} (hc : s.cfg = some c) {input : TrgInput} {lows highs cls : Nat}
    (h : (filterPulse c.divider (s.demand.filterOf input) lows highs).2 = true) (hcls : c.classFor input = some cls) :
    exec (.triggerArrival input lows highs) s =
      .next ((s.setFilter input (filterPulse c.divider (s.demand.filterOf input) lows highs).1).arrive cls) := by
  simp only [exec, execTriggerArrival, hc, h, hcls, State.setFilter]

/-- An arrival leaves the filters alone. -/
theorem State.arrive_filterOf (s : State) (cls : Nat) (input : TrgInput) :
    (s.arrive cls).demand.filterOf input = s.demand.filterOf input := by
  unfold State.arrive
  split
  · split
    · cases input <;> rfl
    · rfl
  · split <;> rfl

/-- Whatever else a command on a trigger input does, it leaves the filters as the samples make them. -/
theorem exec_triggerArrival_filters {s : State} {c : Settings} (hc : s.cfg = some c) (input : TrgInput) (lows highs : Nat) :
    Completes (.triggerArrival input lows highs) s (fun t => ∀ j, t.demand.filterOf j =
      if j = input then (filterPulse c.divider (s.demand.filterOf input) lows highs).1 else s.demand.filterOf j) := by
  cases h : (filterPulse c.divider (s.demand.filterOf input) lows highs).2 with
  | false => exact .of_eq (exec_triggerArrival_of_quiet hc (.inl h)) fun j => DemandQueue.filterOf_setFilter _ _ _ _
  | true =>
    cases hcls : c.classFor input with
    | none => exact .of_eq (exec_triggerArrival_of_quiet hc (.inr hcls)) fun j => DemandQueue.filterOf_setFilter _ _ _ _
    | some cls =>
      exact .of_eq (exec_triggerArrival_of_arrival hc h hcls) fun j =>
        (State.arrive_filterOf _ cls j).trans (DemandQueue.filterOf_setFilter _ _ _ _)

/-- The source that names an input (R99). -/
def pinSource : TrgInput → Source
  | .trga => .trga
  | .trgb => .trgb

theorem Settings.classFor_eq (c : Settings) (input : TrgInput) :
    c.classFor input = (List.range 4).find? (fun i => (c.classOf i).source == pinSource input) := by
  cases input <;> rfl

theorem Settings.classFor_eq_none {c : Settings} {input : TrgInput} (h : ∀ i, i < 4 → ¬ (c.classOf i).source = pinSource input) :
    c.classFor input = none := by
  rw [c.classFor_eq, List.find?_eq_none]
  exact fun i hi => by simpa using h i (List.mem_range.mp hi)

theorem Settings.classFor_eq_some {c : Settings} {input : TrgInput} {cls : Nat} (h4 : cls < 4) (h : (c.classOf cls).source = pinSource input)
    (hu : ∀ j, j < 4 → j ≠ cls → ¬ (c.classOf j).source = pinSource input) : c.classFor input = some cls := by
  cases hf : c.classFor input with
  | none =>
    rw [c.classFor_eq, List.find?_eq_none] at hf
    exact absurd (by simpa using h) (hf cls (List.mem_range.mpr h4))
  | some j =>
    rw [c.classFor_eq] at hf
    have hj : (c.classOf j).source = pinSource input := by simpa using List.find?_some hf
    by_contra hne
    exact hu j (List.mem_range.mp (List.mem_of_find?_eq_some hf)) (fun h => hne (by rw [h])) hj

/-- Setting a filter leaves the queue, its numbers, the claims and the exposure list. -/
theorem DemandQueue.setFilter_rest (q : DemandQueue) (input : TrgInput) (f : TrgFilter) :
    (q.setFilter input f).entries = q.entries ∧ (q.setFilter input f).nextRequest = q.nextRequest ∧
    (q.setFilter input f).claimRecord = q.claimRecord ∧ (q.setFilter input f).exposures = q.exposures := by
  cases input <;> exact ⟨rfl, rfl, rfl, rfl⟩

theorem State.arrive_of_room {s : State} (hm : s.station = .member) (h : s.demand.entries.length < 12) (cls : Nat) :
    s.arrive cls = { s with demand := s.demand.accept cls } := by
  rw [State.arrive, if_pos hm, if_pos h]

theorem State.arrive_of_full {s : State} (hm : s.station = .member) (h : 12 ≤ s.demand.entries.length) (cls : Nat) :
    s.arrive cls = (s.count .overruns 1).offer { kind := .overrun, frame := s.timer.frame, cls := some cls } := by
  rw [State.arrive, if_pos hm, if_neg (Nat.not_lt.mpr h)]

theorem State.arrive_of_refused {s : State} (hm : s.station ≠ .member) (h : ¬ (s.station = .loading ∨ s.station = .loadFailed))
    (cls : Nat) : s.arrive cls = s.count .refusedTriggers 1 := by
  rw [State.arrive, if_neg hm, if_neg h]

/-- Before load completion and in LOAD_FAILED an arrival is nothing. -/
theorem State.arrive_of_unloaded {s : State} (h : s.station = .loading ∨ s.station = .loadFailed) (cls : Nat) : s.arrive cls = s := by
  have hm : s.station ≠ .member := by rcases h with h | h <;> rw [h] <;> decide
  rw [State.arrive, if_neg hm, if_pos h]

end Sys2Proof.Machine

namespace Sys2Proof.Proofs

open Sys2Proof.Machine

/-- Settles O43: a MEMBER's vote, and its absence elsewhere. -/
theorem vote : Obligations.Vote := by
  unfold Obligations.Vote
  refine ⟨fun s c d h hm hd => ⟨fun hw => .of_eq (exec_digestPhaseClose_of_member h hm hd) ?_,
    fun hn => .of_eq (exec_digestPhaseClose_of_member h hm hd) ?_⟩, fun s c h hm hv =>
      .of_eq (exec_digestPhaseClose_of_not_member h hm) ?_⟩
  · rw [State.vote_of_expose (s := s.reach c c.placeDigestClose c.digestClose) c ((s.voteVerdict_eq_expose d).mpr hw)]
    refine ⟨rfl, s.reach_engineKept c c.placeDigestClose c.digestClose, ?_⟩
    intro b hb
    cases b <;> simp_all [Block.same, State.bind]
  · rw [State.vote_of_holdoff (s := s.reach c c.placeDigestClose c.digestClose) c (State.voteVerdict_of_not (s := s) hn)]
    refine ⟨rfl, rfl, rfl, s.reach_engineKept c c.placeDigestClose c.digestClose, ?_⟩
    intro b hb
    cases b <;> simp_all [Block.same]
  · exact ⟨s.reach_value c _ _ h.2.1 hv c.digestClose_le, s.reach_engineKept c _ _, s.reach_frame c _ _⟩

/-- Settles O45: an exposure that starts, with its first edges and its pins, and every slot in which none does. -/
theorem slotStart : Obligations.SlotStart := by
  unfold Obligations.SlotStart
  intro k s c h hk instant pins hv
  have hval : (s.reach c (c.placeSlotStart k) (c.slotStartAt k)).timer.value = instant :=
    s.reach_value c _ _ h.2.1 hv (c.slotStartAt_le hk)
  have hframe := State.onlyChanges_comp (s.reach_frame c (c.placeSlotStart k) (c.slotStartAt k))
    (State.startSlot_frame _ c k) (m := [.timer, .demand, .engine]) (by decide)
  refine ⟨fun ch x hi hve ho hx => ?_, fun hno => .of_eq (exec_slotStart_of_awaits h hk) ?_⟩
  · intro p first
    refine .of_eq (exec_slotStart_of_awaits h hk) ?_
    have hstart := State.engineSlotStart_of_own (s := s.reach c (c.placeSlotStart k) (c.slotStartAt k)) c
      ((PatternEngine.elapse_mode _ _).trans hi) hve ((s.ownCell_eq_some k ch x).mpr ho) hx
    rw [hval] at hstart
    have hdue : dueEdges c (c.startRecord k ch x.cls instant) 0 0 = first := dueEdges_origin c rfl
    have hmode : (State.startSlot (s.reach c (c.placeSlotStart k) (c.slotStartAt k)) c k).engine.mode =
        .running { slot := k, channel := ch, cls := x.cls, pattern := p, span := (c.patternOf p).span, origin := instant,
                   next := first.length, second := false } := by
      rw [State.startSlot, hstart]
      simp only [PatternEngine.play, hdue]
      simp only [Settings.startRecord, Nat.zero_add]
      rfl
    have hgap : (State.startSlot (s.reach c (c.placeSlotStart k) (c.slotStartAt k)) c k).engine.gap =
        (s.engine.elapse (instant - s.timer.value)).justEnded := congrArg PatternEngine.gap hstart
    refine ⟨hmode, ?_, ?_, fun hj => ?_, fun he hj => ?_, ?_, hval, rfl, hframe⟩
    · rw [State.startSlot, hstart]
      simp only [PatternEngine.play, hdue]
      exact congrArg (first.foldl applyEdge) (PatternEngine.elapse_levels _ _)
    · exact fun i _ => State.drv_of_loaded ((hframe .config (by decide)).trans h.1) (by rw [hmode]; nofun) i
    · exact State.exposing_of_running hmode (hgap.trans (PatternEngine.elapse_justEnded_of (hj.imp_left Nat.sub_pos_of_lt)))
    · refine State.exposing_of_gap hmode (hgap.trans ?_)
      rw [he, Nat.sub_self]
      exact hj
    · exact if_pos hve
  · have hstart : (s.reach c (c.placeSlotStart k) (c.slotStartAt k)).engineSlotStart c k =
        (s.reach c (c.placeSlotStart k) (c.slotStartAt k)).engine := by
      refine State.engineSlotStart_of_other c fun ch x hi hve ho hx => ?_
      have hi' : s.engine.mode = .idle := (PatternEngine.elapse_mode _ _).symm.trans hi
      have ho' := (s.ownCell_eq_some k ch x).mp ho
      rcases hno with ⟨r, hr⟩ | hn | hn | hn | ⟨ch', x', ho'', hx'⟩
      · rw [hr] at hi'; cases hi'
      · exact hn hve
      · exact hn ho'.1
      · exact hn ch x ho'.2.1 ho'.2.2.1
      · have heq := ((s.ownCell_eq_some k ch' x').mpr ho'').symm.trans ho
        cases heq
        exact hx' hx
    have hkept : s.engineKept (State.startSlot (s.reach c (c.placeSlotStart k) (c.slotStartAt k)) c k) :=
      State.engineKept_of_eq (s.reach_engineKept c _ _) hstart
    refine ⟨hkept, fun hm i _ => ?_, hval, ?_, hframe⟩
    · exact State.drv_of_loaded ((hframe .config (by decide)).trans h.1) (by rw [hkept.1]; exact hm) i
    · exact State.startSlot_entries _ c k

/-- Settles O46: the end of the span, the inner slot end, and a slot end without an exposure. -/
theorem slotEnd : Obligations.SlotEnd := by
  unfold Obligations.SlotEnd
  intro k s c h hk instant hv
  have hval : (s.reach c (c.placeSlotEnd k) (c.slotEndAt k)).timer.value = instant :=
    s.reach_value c _ _ h.2.1 hv ((c.slotEndAt_le hk).trans (Nat.sub_le _ _))
  have hmode : (s.reach c (c.placeSlotEnd k) (c.slotEndAt k)).engine.mode = s.engine.mode := PatternEngine.elapse_mode _ _
  refine ⟨fun r it hr hlast hit => ?_, fun r hr hslot hspan hgap => ?_, fun hi => ?_⟩
  · refine .of_eq (exec_slotEnd_of_awaits h hk) ?_
    rw [State.engineSlotEnd_of_last c (hmode.trans hr) hlast]
    have hend := State.endExposure_of_some (s := s.reach c (c.placeSlotEnd k) (c.slotEndAt k)) c true hit
    have hframe := State.onlyChanges_comp (s.reach_frame c (c.placeSlotEnd k) (c.slotEndAt k))
      (State.endExposure_frame _ c r true) (m := [.timer, .demand, .engine, .events, .counters]) (by decide)
    obtain ⟨hslot, hch⟩ := DemandQueue.itemAt_some hit
    generalize State.endExposure _ c r true = t at hend hframe ⊢
    have hengine : t.engine = PatternEngine.rest c true := by rw [hend]; rfl
    have hdemand : t.demand = s.demand.drop it := by rw [hend]; rfl
    obtain ⟨hexp, hsel, hpins⟩ := State.exposing_of_idle (congrArg PatternEngine.mode hengine)
    refine ⟨congrArg PatternEngine.mode hengine, congrArg PatternEngine.levels hengine, hexp, hsel, hpins, fun i _ => ?_, ?_, ?_,
      ?_, ?_, ?_, hframe⟩
    · rw [State.drv_of_loaded ((hframe .config (by decide)).trans h.1) (by rw [hengine]; nofun), hengine]
      rfl
    · rw [hdemand, ← hslot, ← hch]
      refine congrArg (fun f => s.demand.exposures.filter f) ?_
      funext y
      rw [Bool.eq_iff_iff]
      simp
    · rw [hdemand, ← hslot, ← hch, DemandQueue.drop_entries]
    · rw [hend]; rfl
    · rw [hend, ← hslot, ← hch]; rfl
    · rw [hend]; exact hval
  · refine .of_eq (exec_slotEnd_of_awaits h hk) ?_
    rw [State.engineSlotEnd_of_inner c (hmode.trans hr) hslot hspan]
    have hpins := State.exposing_of_running (s := { s.reach c (c.placeSlotEnd k) (c.slotEndAt k) with
      engine := { (s.reach c (c.placeSlotEnd k) (c.slotEndAt k)).engine with mode := .running { r with second := true } } }) rfl
        (PatternEngine.elapse_gap_of (hgap.imp_left Nat.sub_pos_of_lt))
    exact ⟨rfl, PatternEngine.elapse_levels _ _, hpins.1, hpins.2.1, hpins.2.2, hval,
      State.onlyChanges_comp (s.reach_frame c _ _) (State.setEngine_frame _ _) (by decide)⟩
  · refine .of_eq (exec_slotEnd_of_awaits h hk) ?_
    rw [State.engineSlotEnd_of_idle c k (hmode.trans hi)]
    exact ⟨s.reach_engineKept c _ _, hval, s.reach_frame c _ _⟩

/-- Settles O47: the due edges are the first `n` that remain. -/
theorem patternEdge : Obligations.PatternEdge := by
  unfold Obligations.PatternEdge
  intro r s c hc hm
  refine ⟨fun offset fine n hn hedges hafter => ?_, fun offset fine h => .of_eq (exec_patternEdge_of_not_due hc hm h) rfl⟩
  obtain ⟨e0, he0, ho0, hf0, -⟩ := hedges r.next le_rfl (by omega)
  refine .of_eq (exec_patternEdge_of_due hc hm he0 ho0 hf0) ?_
  have hdue := dueEdges_eq_take hedges hafter
  have hget {m : Nat} (hm : r.next ≤ m) (hm' : m < r.next + n) :
      (dueEdges c r offset fine)[m - r.next]? = (c.patternEdges r.pattern)[m]? := by
    rw [hdue, List.getElem?_take_of_lt (by omega), List.getElem?_drop, Nat.add_sub_cancel' hm]
  have hlen : (dueEdges c r offset fine).length = n := by
    obtain ⟨e, he, -⟩ := hedges (r.next + n - 1) (by omega) (by omega)
    obtain ⟨hlt, -⟩ := List.getElem?_eq_some_iff.mp he
    rw [hdue, List.length_take, List.length_drop]
    omega
  have hat {j : Nat} {e : Edge} (he : (dueEdges c r offset fine)[j]? = some e) :
      r.next + j < r.next + n ∧ (c.patternEdges r.pattern)[r.next + j]? = some e := by
    obtain ⟨hlt, -⟩ := List.getElem?_eq_some_iff.mp he
    have hj : r.next + j < r.next + n := by omega
    refine ⟨hj, (hget (Nat.le_add_right _ _) hj).symm.trans ?_⟩
    rw [Nat.add_sub_cancel_left]
    exact he
  obtain ⟨-, hlevels⟩ := s.advanceClock_engineKept c (r.origin + offset) (fine * c.divider / 10)
  have hmode : ((s.edgeTime c r offset fine).playEdges c r offset fine).engine.mode = .running { r with next := r.next + n } := by
    simp only [State.playEdges, PatternEngine.play, hlen]
  have hlev : ((s.edgeTime c r offset fine).playEdges c r offset fine).engine.levels =
      (dueEdges c r offset fine).foldl applyEdge s.engine.levels := congrArg (List.foldl applyEdge · _) hlevels
  have hframe := s.edgeTime_playEdges_frame c r offset fine
  have hdrv := State.drv_of_loaded ((hframe .config (by decide)).trans hc) (by rw [hmode]; nofun)
  refine ⟨hmode, fun m e hm hm' he hlast => ?_, fun i hi hne => ?_, fun hrun hl hv => ?_, fun hp => ?_,
    s.advanceClock_frameNumber c _ _, hframe⟩
  · obtain ⟨e', he', -, -, hout⟩ := hedges m hm hm'
    cases he.symm.trans he'
    have hlevel := foldl_applyEdge_of_last ((hget hm hm').trans he) hout
      (fun j e' hj he' => hlast (r.next + j) e' (by omega) (hat he').1 (hat he').2) s.engine.levels
    rw [← hlev] at hlevel
    exact ⟨hlevel, fun hen => by rw [hdrv, if_pos hen, hlevel], fun hen => by rw [hdrv, hen]; rfl⟩
  · rw [hlev]
    refine foldl_applyEdge_of_unnamed hi (fun e he => ?_) _
    obtain ⟨j, hj⟩ := List.mem_iff_getElem?.mp he
    exact hne _ e (Nat.le_add_right _ _) (hat hj).1 (hat hj).2
  · exact s.advanceClock_timer c _ _ hrun (by omega) hl (by omega)
  · have hpins := State.exposing_of_running hmode (State.advanceClock_gap (s := s) hp)
    exact ⟨hpins.1, hpins.2.1⟩

/-- Settles O48: the filter of the input, and what an arrival does in each station state. -/
theorem triggerArrivals : Obligations.TriggerArrivals := by
  unfold Obligations.TriggerArrivals
  intro input lows highs s f low run arrives other names unchanged
  have hnames (c : Settings) (i : Nat) : names c i ↔ (c.classOf i).source = pinSource input := by
    cases input <;> exact Iff.rfl
  have hlow (c : Settings) : (f.hold c.divider false lows).high = false ↔ low c := f.hold_low_high c.divider lows
  have hrun (c : Settings) : (f.hold c.divider false lows).run = run c := f.hold_low_run c.divider lows
  have hhigh (c : Settings) : (f.hold c.divider false lows).high = true ↔ ¬ low c := by rw [← hlow, Bool.not_eq_false]
  have harrives (c : Settings) : (filterPulse c.divider f lows highs).2 = true ↔ arrives c := by
    rw [filterPulse_arrives, hlow, hrun]
  have hquiet (c : Settings) : (filterPulse c.divider f lows highs).2 = false ↔ ¬ arrives c := by
    rw [← harrives, Bool.not_eq_true]
  have hset (c : Settings) : unchanged (s.setFilter input (filterPulse c.divider f lows highs).1) ∧
      s.onlyChanges (s.setFilter input (filterPulse c.divider f lows highs).1) [.demand] :=
    ⟨s.demand.setFilter_rest input _, s.setDemand_frame _⟩
  refine ⟨fun hc => .of_eq (exec_triggerArrival_of_unloaded hc input lows highs) rfl, fun c hc => ?_, fun hs => ?_,
    fun c hc hn => ?_, fun c cls hc ha h4 hcls hu => ?_⟩
  · obtain ⟨hfh, hf0, hf1, hf2⟩ := filterPulse_filter c.divider f lows highs
    rw [harrives, hhigh] at hfh hf2
    rw [hlow, hquiet] at hf1
    rw [hrun] at hf0 hf1
    refine (exec_triggerArrival_filters hc input lows highs).imp fun t ht => ?_
    have hown : t.demand.filterOf input = (filterPulse c.divider f lows highs).1 := (ht input).trans (if_pos rfl)
    rw [hown]
    refine ⟨hfh, hf0, hf1, hf2, (ht other).trans (if_neg ?_)⟩
    cases input <;> nofun
  · cases hc : s.cfg with
    | none => exact .of_eq (exec_triggerArrival_of_unloaded hc input lows highs) ⟨⟨rfl, rfl, rfl, rfl⟩, s.onlyChanges_refl _⟩
    | some c =>
      cases hp : (filterPulse c.divider f lows highs).2 with
      | false => exact .of_eq (exec_triggerArrival_of_quiet hc (.inl hp)) (hset c)
      | true =>
        cases hcls : c.classFor input with
        | none => exact .of_eq (exec_triggerArrival_of_quiet hc (.inr hcls)) (hset c)
        | some cls =>
          refine .of_eq (exec_triggerArrival_of_arrival hc hp hcls) ?_
          rw [State.arrive_of_unloaded (s := s.setFilter input _) hs]
          exact hset c
  · refine .of_eq (exec_triggerArrival_of_quiet hc ?_) (hset c)
    exact hn.imp (hquiet c).mpr fun hn => Settings.classFor_eq_none fun i hi h => hn i hi ((hnames c i).mpr h)
  · have hfor : c.classFor input = some cls := Settings.classFor_eq_some h4 ((hnames c cls).mp hcls)
      fun j hj hne h => hu j hj hne ((hnames c j).mpr h)
    obtain ⟨hentries, hnext, hclaims, hexps⟩ := s.demand.setFilter_rest input
      (filterPulse c.divider (s.demand.filterOf input) lows highs).1
    have hexec := exec_triggerArrival_of_arrival hc ((harrives c).mpr ha) hfor
    refine ⟨fun hm hlen => .of_eq hexec ?_, fun hm hlen => .of_eq hexec ?_, fun hs => .of_eq hexec ?_⟩
    · rw [State.arrive_of_room (s := s.setFilter input _) hm (by rw [State.setFilter, hentries]; exact hlen)]
      have hfilter : (filterPulse c.divider f lows highs).1 = { high := true, run := 0 } := by
        obtain ⟨hfh, -, -, hf2⟩ := filterPulse_filter c.divider f lows highs
        have ha' := (harrives c).mpr ha
        exact TrgFilter.eq_of_fields (hfh.mpr (.inl ha')) (hf2 ha.2.1 (.inl ha'))
      refine ⟨?_, ?_, ?_, hclaims, hexps, ?_⟩
      · simp only [DemandQueue.accept, State.setFilter, hentries, hnext]
      · simp only [DemandQueue.accept, State.setFilter, hnext]
      · rw [← hfilter]
        cases input <;> rfl
      · intro b hb
        cases b <;> simp_all [Block.same, State.setFilter]
    · rw [State.arrive_of_full (s := s.setFilter input _) hm (by rw [State.setFilter, hentries]; omega)]
      refine ⟨⟨hentries, hnext, hclaims, hexps⟩, rfl, rfl, ?_⟩
      intro b hb
      cases b <;> simp_all [Block.same, State.setFilter]
    · have hne : s.station ≠ .member ∧ ¬ (s.station = .loading ∨ s.station = .loadFailed) := by
        rcases hs with hs | hs | hs | hs | hs <;> rw [hs] <;> decide
      rw [State.arrive_of_refused (s := s.setFilter input _) hne.1 hne.2]
      refine ⟨⟨hentries, hnext, hclaims, hexps⟩, rfl, ?_⟩
      intro b hb
      cases b <;> simp_all [Block.same, State.setFilter]

end Sys2Proof.Proofs
end

section
/-! Binding takes the oldest (O44): the exposure list cell by cell, and the queue entry by entry. -/

namespace Sys2Proof.Machine

open Sys2Proof.Proofs

/-- The request number that a cell takes: that of the oldest PENDING entry of its class, if the class is triggered and has one. -/
def boundRequest (c : Settings) (l : List DemandEntry) (p : Nat × Nat × Nat) : Option Half :=
  if (c.classOf p.2.2).triggered then (bindOldest p.2.2 p.1 p.2.1 l).2 else none

/-- The items that binding puts on the exposure list, cell by cell (R107). -/
def bindItems (c : Settings) : List DemandEntry → List (Nat × Nat × Nat) → List ExposureItem
  | _, [] => []
  | l, p :: cells => { slot := p.1, channel := p.2.1, cls := p.2.2, span := c.classSpan p.2.2, request := boundRequest c l p, running := false } ::
      bindItems c (bindStep c l p) cells

theorem bindCell_exposures (c : Settings) (q : DemandQueue) (p : Nat × Nat × Nat) : (bindCell c q p.1 p.2.1 p.2.2).exposures =
    q.exposures ++ [{ slot := p.1, channel := p.2.1, cls := p.2.2, span := c.classSpan p.2.2, request := boundRequest c q.entries p,
                      running := false }] := by
  unfold bindCell boundRequest
  dsimp only
  split <;> rfl

theorem foldl_bindCell_exposures (c : Settings) (cells : List (Nat × Nat × Nat)) (q : DemandQueue) :
    (cells.foldl (fun q p => bindCell c q p.1 p.2.1 p.2.2) q).exposures = q.exposures ++ bindItems c q.entries cells := by
  induction cells generalizing q with
  | nil => exact (List.append_nil _).symm
  | cons p cells ih => rw [List.foldl_cons, ih, bindCell_exposures, bindCell_entries, List.append_assoc]; rfl

theorem foldl_bindCell_rest (c : Settings) (cells : List (Nat × Nat × Nat)) (q : DemandQueue) :
    (cells.foldl (fun q p => bindCell c q p.1 p.2.1 p.2.2) q).nextRequest = q.nextRequest ∧
    (cells.foldl (fun q p => bindCell c q p.1 p.2.1 p.2.2) q).claimRecord = q.claimRecord := by
  induction cells generalizing q with
  | nil => exact ⟨rfl, rfl⟩
  | cons p cells ih => exact ih _

/-! ### The exposure list -/

theorem bindItems_cells (c : Settings) (l : List DemandEntry) (cells : List (Nat × Nat × Nat)) :
    (bindItems c l cells).map (fun it => (it.slot, it.channel, it.cls)) = cells := by
  induction cells generalizing l with
  | nil => rfl
  | cons p cells ih => exact congrArg (p :: ·) (ih _)

/-- Each item has its class's span and is not yet RUNNING, and those of a class that is not triggered have no request. -/
theorem bindItems_forall (c : Settings) (l : List DemandEntry) (cells : List (Nat × Nat × Nat)) :
    ∀ it ∈ bindItems c l cells, (it.span = c.classSpan it.cls ∧ it.running = false) ∧
      ((c.classOf it.cls).triggered = false → it.request = none) := by
  induction cells generalizing l with
  | nil => nofun
  | cons p cells ih => exact List.forall_mem_cons.mpr ⟨⟨⟨rfl, rfl⟩, fun h => if_neg (by rw [h]; decide)⟩, ih _⟩

/-- The PENDING entries of a class, oldest first. -/
def waiting (l : List DemandEntry) (i : Nat) : List DemandEntry := l.filter (fun e => e.cls == i && e.bound == none)

/-- The oldest PENDING entry of its class gives a cell its request and waits no longer. -/
theorem bindOldest_waiting (i slot channel : Nat) (l : List DemandEntry) :
    (bindOldest i slot channel l).2 = (waiting l i).head?.map (·.request) ∧
    waiting (bindOldest i slot channel l).1 i = (waiting l i).tail := by
  induction l with
  | nil => exact ⟨rfl, rfl⟩
  | cons e l ih =>
    by_cases h : e.cls = i ∧ e.bound = none
    · have hw : waiting (e :: l) i = e :: waiting l i := List.filter_cons_of_pos (by simp [h])
      have hb : waiting ({ e with bound := some (slot, channel) } :: l) i = waiting l i := List.filter_cons_of_neg (by simp)
      rw [bindOldest, if_pos h, hw, hb]
      exact ⟨rfl, rfl⟩
    · have hw (l : List DemandEntry) : waiting (e :: l) i = waiting l i := List.filter_cons_of_neg (by simpa using h)
      rw [bindOldest, if_neg h, hw, hw]
      exact ih

/-- A cell of another class takes nothing from those that wait. -/
theorem bindOldest_waiting_of_ne {i j : Nat} (hne : j ≠ i) (slot channel : Nat) (l : List DemandEntry) :
    waiting (bindOldest j slot channel l).1 i = waiting l i := by
  induction l with
  | nil => rfl
  | cons e l ih =>
    unfold bindOldest
    split
    · next h =>
      have hi : e.cls ≠ i := by rw [h.1]; exact hne
      exact (List.filter_cons_of_neg (by simp)).trans (List.filter_cons_of_neg (by simp [hi])).symm
    · unfold waiting at ih ⊢
      simp only [List.filter_cons, ih]

theorem bindStep_waiting {c : Settings} {i : Nat} {p : Nat × Nat × Nat} (hne : p.2.2 ≠ i) (l : List DemandEntry) :
    waiting (bindStep c l p) i = waiting l i := by
  unfold bindStep
  split
  · exact bindOldest_waiting_of_ne hne _ _ l
  · rfl

/-- The cells of a triggered class take the requests of those that wait, oldest first, and the further ones none. -/
theorem bindItems_requests {c : Settings} {i : Nat} (ht : (c.classOf i).triggered = true) (cells : List (Nat × Nat × Nat))
    (l : List DemandEntry) (m : Nat) (hm : (cells.filter (fun p => p.2.2 == i)).length ≤ m) :
    ((bindItems c l cells).filter (fun it => it.cls == i)).map (·.request) =
      ((waiting l i).map (fun e : DemandEntry => some e.request) ++ List.replicate m none).take
        (cells.filter (fun p : Nat × Nat × Nat => p.2.2 == i)).length := by
  induction cells generalizing l m with
  | nil => rfl
  | cons p cells ih =>
    by_cases hp : p.2.2 = i
    · have hcells : (p :: cells).filter (fun p => p.2.2 == i) = p :: cells.filter (fun p => p.2.2 == i) :=
        List.filter_cons_of_pos (by simpa using hp)
      rw [hcells, List.length_cons] at hm ⊢
      obtain ⟨hreq, hrest⟩ := bindOldest_waiting p.2.2 p.1 p.2.1 l
      have hstep : bindStep c l p = (bindOldest p.2.2 p.1 p.2.1 l).1 := if_pos (by rw [hp]; exact ht)
      have hbound : boundRequest c l p = (bindOldest p.2.2 p.1 p.2.1 l).2 := if_pos (by rw [hp]; exact ht)
      rw [bindItems, List.filter_cons_of_pos (by simpa using hp), List.map_cons, hbound, hreq, hstep, hp]
      rw [hp] at hrest
      cases hw : waiting l i with
      | nil =>
        obtain ⟨m, rfl⟩ : ∃ k, m = k + 1 := ⟨m - 1, by omega⟩
        rw [ih _ m (by omega), hrest, hw]
        rfl
      | cons e rest =>
        rw [ih _ m (by omega), hrest, hw]
        rfl
    · rw [bindItems, List.filter_cons_of_neg (by simpa using hp), List.filter_cons_of_neg (by simpa using hp), ih _ m
        (by rwa [List.filter_cons_of_neg (by simpa using hp)] at hm), bindStep_waiting hp]

/-! ### The queue -/

/-- What binding makes of the first entry, and the cells it leaves to the others. -/
theorem bindEntries_cons (c : Settings) (e : DemandEntry) (l : List DemandEntry) (cells : List (Nat × Nat × Nat)) :
    ∃ e' cells', bindEntries c (e :: l) cells = e' :: bindEntries c l cells' ∧
      (e'.request, e'.cls, e'.age) = (e.request, e.cls, e.age) ∧ (e.bindable c = false → e'.bound = e.bound) := by
  cases hb : e.bindable c with
  | false => exact ⟨e, cells, bindEntries_cons_of_not hb l cells, rfl, fun _ => rfl⟩
  | true =>
    cases hq : cells.find? (fun p => p.2.2 == e.cls) with
    | none => exact ⟨e, cells, bindEntries_cons_of_none hb hq l, rfl, nofun⟩
    | some p => exact ⟨_, _, bindEntries_cons_of_some hb hq l, rfl, nofun⟩

theorem bindEntries_fields (c : Settings) (l : List DemandEntry) (cells : List (Nat × Nat × Nat)) :
    (bindEntries c l cells).map (fun e => (e.request, e.cls, e.age)) = l.map (fun e => (e.request, e.cls, e.age)) := by
  induction l generalizing cells with
  | nil => rfl
  | cons e l ih =>
    obtain ⟨e', cells', heq, hfields, -⟩ := bindEntries_cons c e l cells
    rw [heq, List.map_cons, List.map_cons, hfields, ih]

theorem bindEntries_others (c : Settings) (l : List DemandEntry) (cells : List (Nat × Nat × Nat)) :
    ∀ p ∈ l.zip (bindEntries c l cells), p.1.bindable c = false → p.2.bound = p.1.bound := by
  induction l generalizing cells with
  | nil => nofun
  | cons e l ih =>
    obtain ⟨e', cells', heq, -, hkept⟩ := bindEntries_cons c e l cells
    rw [heq, List.zip_cons_cons]
    exact List.forall_mem_cons.mpr ⟨hkept, ih cells'⟩

/-- Taking the first cell of a class leaves the other cells of it, and every cell of another. -/
theorem filter_eraseP_class (cells : List (Nat × Nat × Nat)) (i j : Nat) :
    (cells.eraseP (fun p => p.2.2 == j)).filter (fun p => p.2.2 == i) =
      if j = i then (cells.filter (fun p => p.2.2 == i)).tail else cells.filter (fun p => p.2.2 == i) := by
  induction cells with
  | nil => split <;> rfl
  | cons p cells ih =>
    by_cases hj : p.2.2 = j
    · rw [List.eraseP_cons_of_pos (by simpa using hj)]
      split
      · next h => rw [List.filter_cons_of_pos (by simp [hj, h]), List.tail_cons]
      · next h => rw [List.filter_cons_of_neg (by simp [hj, h])]
    · rw [List.eraseP_cons_of_neg (by simpa using hj)]
      by_cases hi : p.2.2 = i
      · have hne : j ≠ i := fun h => hj (hi.trans h.symm)
        rw [List.filter_cons_of_pos (by simpa using hi), List.filter_cons_of_pos (by simpa using hi), ih, if_neg hne, if_neg hne]
      · rw [List.filter_cons_of_neg (by simpa using hi), List.filter_cons_of_neg (by simpa using hi), ih]

/-- Those that wait for a triggered class are bound to its cells, first to last, and the further ones wait on. -/
theorem bindEntries_bounds {c : Settings} {i : Nat} (ht : (c.classOf i).triggered = true) (l : List DemandEntry)
    (cells : List (Nat × Nat × Nat)) (m : Nat) (hm : (waiting l i).length ≤ m) :
    ((l.zip (bindEntries c l cells)).filter (fun p => p.1.cls == i && p.1.bound == none)).map (fun p => p.2.bound) =
      ((cells.filter (fun p : Nat × Nat × Nat => p.2.2 == i)).map (fun p : Nat × Nat × Nat => some (p.1, p.2.1)) ++
        List.replicate m none).take (waiting l i).length := by
  induction l generalizing cells m with
  | nil => rfl
  | cons e l ih =>
    by_cases he : e.cls = i ∧ e.bound = none
    · obtain ⟨hcls, hbound⟩ := he
      have hw : waiting (e :: l) i = e :: waiting l i := List.filter_cons_of_pos (by simp [hcls, hbound])
      have hb : e.bindable c = true := by simp [DemandEntry.bindable, hcls, hbound, ht]
      rw [hw, List.length_cons] at hm ⊢
      cases hq : cells.find? (fun p => p.2.2 == e.cls) with
      | none =>
        have hnil : cells.filter (fun p => p.2.2 == i) = [] := by
          rw [← hcls]
          exact List.filter_eq_nil_iff.mpr (List.find?_eq_none.mp hq)
        obtain ⟨m, rfl⟩ : ∃ k, m = k + 1 := ⟨m - 1, by omega⟩
        rw [bindEntries_cons_of_none hb hq, List.zip_cons_cons, List.filter_cons_of_pos (by simp [hcls, hbound]), List.map_cons,
          ih cells m (by omega), hnil, hbound]
        rfl
      | some p =>
        obtain ⟨tail, hcons⟩ : ∃ tail, cells.filter (fun p => p.2.2 == i) = p :: tail := by
          have hhead := List.head?_filter (p := fun p : Nat × Nat × Nat => p.2.2 == i) (l := cells)
          rw [hcls] at hq
          rw [hq] at hhead
          exact ⟨_, List.eq_cons_of_mem_head? hhead⟩
        rw [bindEntries_cons_of_some hb hq, List.zip_cons_cons, List.filter_cons_of_pos (by simp [hcls, hbound]), List.map_cons,
          ih _ m (by omega), filter_eraseP_class, if_pos hcls, hcons]
        rfl
    · have hw : waiting (e :: l) i = waiting l i := List.filter_cons_of_neg (by simpa using he)
      rw [hw] at hm ⊢
      cases hb : e.bindable c with
      | false =>
        rw [bindEntries_cons_of_not hb, List.zip_cons_cons, List.filter_cons_of_neg (by simpa using he), ih cells m hm]
      | true =>
        have hne : e.cls ≠ i := fun h => he ⟨h, by simp only [DemandEntry.bindable, Bool.and_eq_true, beq_iff_eq] at hb; exact hb.1⟩
        cases hq : cells.find? (fun p => p.2.2 == e.cls) with
        | none => rw [bindEntries_cons_of_none hb hq, List.zip_cons_cons, List.filter_cons_of_neg (by simpa using he), ih cells m hm]
        | some p =>
          rw [bindEntries_cons_of_some hb hq, List.zip_cons_cons, List.filter_cons_of_neg (by simpa using he), ih _ m hm,
            filter_eraseP_class, if_neg hne]

/-- The own part-0 cells in slot order, by what they are. -/
theorem State.ownPart0_eq {s : State} {c : Settings} {own : List (Nat × Nat × Nat)} (ho : own.Pairwise (fun p q => p.1 < q.1))
    (hmem : ∀ k ch i, (k, ch, i) ∈ own ↔ k < c.slots ∧ ∃ x, s.ownCellIs k ch x ∧ x.cls = i ∧ x.part = 0) : s.ownPart0 c = own := by
  have hnodup {l : List (Nat × Nat × Nat)} (h : l.Pairwise (fun p q => p.1 < q.1)) : l.Nodup :=
    h.imp fun hlt heq => absurd hlt (by rw [heq]; exact Nat.lt_irrefl _)
  have hperm : (s.ownPart0 c).Perm own := (List.perm_ext_iff_of_nodup (hnodup (s.ownPart0_pairwise c)) (hnodup ho)).mpr
    fun ⟨k, ch, i⟩ => (s.mem_ownPart0 c k ch i).trans (hmem k ch i).symm
  exact hperm.eq_of_pairwise (fun a b _ _ h h' => absurd h (Nat.lt_asymm h')) (s.ownPart0_pairwise c) ho

end Sys2Proof.Machine

namespace Sys2Proof.Proofs

open Sys2Proof.Machine

/-- Settles O44: the exposure list by induction on the cells, the queue by induction on its entries. -/
theorem bindingTakesTheOldest : Obligations.BindingTakesTheOldest := by
  unfold Obligations.BindingTakesTheOldest
  intro s c d own h hm hd hv hexp hord hown waits
  refine .of_eq (exec_digestPhaseClose_of_member h hm hd) ?_
  rw [State.vote_of_expose (s := s.reach c c.placeDigestClose c.digestClose) c hv]
  have hdemand : (State.bind { s.reach c c.placeDigestClose c.digestClose with
      agree := { (s.reach c c.placeDigestClose c.digestClose).agree with
        verdict := .expose, published := (s.reach c c.placeDigestClose c.digestClose).publication d .expose } } c).demand =
      own.foldl (fun q p => bindCell c q p.1 p.2.1 p.2.2) s.demand :=
    congrArg (List.foldl _ s.demand) (State.ownPart0_eq (s := s) hord hown)
  have hitems := foldl_bindCell_exposures c own s.demand
  have hentries := foldl_bindCell_entries c own s.demand
  obtain ⟨hnext, hclaims⟩ := foldl_bindCell_rest c own s.demand
  rw [hexp, List.nil_append] at hitems
  rw [hdemand, hitems, hentries]
  refine ⟨bindItems_cells c _ own, fun it hit => (bindItems_forall c _ own it hit).1, fun i ht => ⟨?_, ?_⟩,
    fun it hit => (bindItems_forall c _ own it hit).2, fun p hp hno => bindEntries_others c _ own p hp ?_,
    bindEntries_fields c _ own, hnext, hclaims⟩
  · exact bindItems_requests ht own _ _ le_rfl
  · exact bindEntries_bounds ht _ own _ le_rfl
  · unfold DemandEntry.bindable
    rcases hno with hno | hno
    · rw [Bool.and_eq_false_iff]
      exact .inl (beq_eq_false_iff_ne.mpr hno)
    · rw [hno, Bool.and_false]

end Sys2Proof.Proofs
end

section
/-! Claim phase close (O34 to O37): the reference frame number, isolation, and the end of JOINING. -/

namespace Sys2Proof.Machine

open Sys2Proof.Proofs

/-! ### The reference sender (R51) -/

theorem findSome?_range_eq_some {β : Type} {g : Nat → Option β} {n : Nat} {b : β} :
    (List.range n).findSome? g = some b ↔ ∃ k, k < n ∧ g k = some b ∧ ∀ j, j < k → g j = none := by
  induction n with
  | zero => simp
  | succ n ih =>
    rw [List.range_succ, List.findSome?_append, Option.or_eq_some_iff, ih, List.findSome?_singleton, List.findSome?_eq_none_iff]
    constructor
    · rintro (⟨k, hk, h⟩ | ⟨hnone, h⟩)
      · exact ⟨k, by omega, h⟩
      · exact ⟨n, by omega, h, fun j hj => hnone j (List.mem_range.mpr hj)⟩
    · rintro ⟨k, hk, h, hj⟩
      rcases Nat.lt_succ_iff_lt_or_eq.mp hk with hk | rfl
      · exact .inl ⟨k, hk, h, hj⟩
      · exact .inr ⟨fun j hj' => hj j (List.mem_range.mp hj'), h⟩

theorem State.firstRank_eq_some (s : State) (k j : Nat) (f : Byte) : s.firstRank k = some (j, f) ↔ j = k ∧ s.candidate1 k f := by
  unfold State.firstRank State.candidate1
  split
  · split
    · next h => simp only [Option.some.injEq, Prod.mk.injEq, h, true_and, eq_comm (a := j), eq_comm (a := f)]
    · next h => simp only [reduceCtorEq, ← and_assoc, h, false_and, and_false]
  · split
    · next st a hh =>
      rw [hh]
      cases hj : a.joining <;> simp [hj, eq_comm (a := j), eq_comm (a := f)]
    · next hh => simp [hh]

theorem State.secondRank_eq_some (s : State) (k j : Nat) (f : Byte) : s.secondRank k = some (j, f) ↔ j = k ∧ s.candidate2 k f := by
  unfold State.secondRank State.candidate2
  split
  · split
    · next h => simp only [Option.some.injEq, Prod.mk.injEq, h, true_and, eq_comm (a := j), eq_comm (a := f)]
    · next h => simp only [reduceCtorEq, ← and_assoc, h, false_and, and_false]
  · split
    · next st a hh =>
      rw [hh]
      cases hj : a.joining <;> simp [hj, eq_comm (a := j), eq_comm (a := f)]
    · next hh => simp [hh]

theorem State.firstRank_eq_none (s : State) (k : Nat) : s.firstRank k = none ↔ ∀ f, ¬ s.candidate1 k f := by
  rw [Option.eq_none_iff_forall_ne_some]
  exact ⟨fun h f hf => h (k, f) ((s.firstRank_eq_some k k f).mpr ⟨rfl, hf⟩),
    fun h p hp => h p.2 ((s.firstRank_eq_some k p.1 p.2).mp hp).2⟩

theorem State.secondRank_eq_none (s : State) (k : Nat) : s.secondRank k = none ↔ ∀ f, ¬ s.candidate2 k f := by
  rw [Option.eq_none_iff_forall_ne_some]
  exact ⟨fun h f hf => h (k, f) ((s.secondRank_eq_some k k f).mpr ⟨rfl, hf⟩),
    fun h p hp => h p.2 ((s.secondRank_eq_some k p.1 p.2).mp hp).2⟩

/-- The reference that the step finds is the one that R51 describes. -/
theorem State.reference_eq_some (s : State) (k : Nat) (f : Byte) : s.reference = some (k, f) ↔ s.referenceIs k f := by
  simp only [State.reference, Option.or_eq_some_iff, findSome?_range_eq_some, List.findSome?_eq_none_iff, List.mem_range,
    State.firstRank_eq_some, State.secondRank_eq_some, State.firstRank_eq_none, State.secondRank_eq_none]
  constructor
  · rintro (⟨_, hk, ⟨rfl, h⟩, hj⟩ | ⟨hnone, _, hk, ⟨rfl, h⟩, hj⟩)
    · exact ⟨hk, .inl ⟨h, fun j g hlt => hj j hlt g⟩⟩
    · exact ⟨hk, .inr ⟨fun j g hlt => hnone j hlt g, h, fun j g hlt => hj j hlt g⟩⟩
  · rintro ⟨hk, ⟨h, hj⟩ | ⟨hnone, h, hj⟩⟩
    · exact .inl ⟨k, hk, ⟨rfl, h⟩, fun j hlt g => hj j g hlt⟩
    · exact .inr ⟨fun j hlt g => hnone j g hlt, k, hk, ⟨rfl, h⟩, fun j hlt g => hj j g hlt⟩

theorem State.reference_eq_none (s : State) : s.reference = none ↔ ∀ k f, ¬ s.referenceIs k f := by
  rw [Option.eq_none_iff_forall_ne_some]
  exact ⟨fun h k f hf => h (k, f) ((s.reference_eq_some k f).mpr hf), fun h p hp => h p.1 p.2 ((s.reference_eq_some p.1 p.2).mp hp)⟩

/-! ### The state after the peer update and the reference (R47, steps 1 and 2) -/

/-- The state after steps 1 and 2. -/
def State.referred (s : State) : State := s.updatePeers.applyReference.1

theorem State.membershipClose_of_keepsPeers {s : State} (h : s.station.keepsPeers = true) : s.membershipClose =
    (s.referred.checkDuplicate.checkConfig.checkJoining, s.updatePeers.applyReference.2) := if_pos h

/-- Step 1 leaves what the reference depends on. -/
theorem State.updatePeers_reference (s : State) : s.updatePeers.reference = s.reference := rfl

/-- Where the reference differs, it is adopted with its record. -/
theorem State.applyReference_of_adopted {s : State} {k : Nat} {f : Byte} (hl : s.station ≠ .listening) (h : s.referenceIs k f)
    (hf : f ≠ s.timer.frame) : s.updatePeers.applyReference =
      (({ s.updatePeers with timer := { s.timer with frame := f } } : State).offer
        { kind := .seqAdopted, frame := f, peer := some k }, some k) := by
  rw [State.applyReference, if_neg (show ¬ s.updatePeers.station = .listening from hl), s.updatePeers_reference,
    (s.reference_eq_some k f).mpr h]
  exact if_neg hf

/-- Where it does not differ, or there is none, step 2 does nothing. -/
theorem State.applyReference_of_kept {s : State} (hl : s.station ≠ .listening) (h : ∀ k f, s.referenceIs k f → f = s.timer.frame) :
    s.updatePeers.applyReference = (s.updatePeers, none) := by
  rw [State.applyReference, if_neg (show ¬ s.updatePeers.station = .listening from hl), s.updatePeers_reference]
  cases hr : s.reference with
  | none => rfl
  | some p => exact if_pos (h p.1 p.2 ((s.reference_eq_some p.1 p.2).mp hr))

theorem State.applyReference_of_observing {s : State} (hl : s.station = .listening) (ho : s.membership.observation = .observing) :
    s.referred = s.updatePeers.setMembership { s.updatePeers.membership with listenRef := s.reference.map (·.2) } := by
  rw [State.referred, State.applyReference, if_pos (show s.updatePeers.station = .listening from hl),
    if_pos (show s.updatePeers.membership.observation = .observing from ho), s.updatePeers_reference]
  rfl

theorem State.applyReference_of_unaligned {s : State} (hl : s.station = .listening) (ho : s.membership.observation = .unaligned) :
    s.referred = s.updatePeers := by
  rw [State.referred, State.applyReference, if_pos (show s.updatePeers.station = .listening from hl),
    if_neg (show ¬ s.updatePeers.membership.observation = .observing by rw [show s.updatePeers.membership.observation = _ from ho]; decide)]

/-- The frame number after an adoption, or without one. -/
theorem State.referred_frame {s : State} (hl : s.station ≠ .listening) :
    (∀ k g, s.referenceIs k g → s.referred.timer.frame = g) ∧
    ((∀ k g, ¬ s.referenceIs k g) → s.referred.timer.frame = s.timer.frame) := by
  refine ⟨fun k g h => ?_, fun h => ?_⟩
  · by_cases hg : g = s.timer.frame
    · have hkept : ∀ k' g', s.referenceIs k' g' → g' = s.timer.frame := fun k' g' h' => by
        have := ((s.reference_eq_some k' g').mpr h').symm.trans ((s.reference_eq_some k g).mpr h)
        cases this
        exact hg
      rw [State.referred, State.applyReference_of_kept hl hkept]
      exact hg.symm
    · rw [State.referred, State.applyReference_of_adopted hl h hg]
      rfl
  · rw [State.referred, State.applyReference_of_kept hl fun k g h' => absurd h' (h k g)]
    rfl

/-- What steps 1 and 2 leave as it was. -/
theorem State.referred_rest (s : State) : s.referred.bus = s.bus ∧ s.referred.sid = s.sid ∧ s.referred.demand = s.demand ∧
    s.referred.agree = s.agree ∧ ∃ l, s.referred.membership = { s.membership with
      peers := (List.range 16).map (fun k => (s.updatedPeer k).1), listenRef := l } := by
  rcases s.updatePeers.applyReference_cases with h | ⟨f, h⟩ | ⟨f, r, h⟩ <;> rw [State.referred, h] <;>
    exact ⟨rfl, rfl, rfl, rfl, _, rfl⟩

theorem State.referred_station (s : State) : s.referred.station = s.station := by
  obtain ⟨-, -, -, -, l, h⟩ := s.referred_rest
  exact (congrArg Membership.station h).trans rfl

theorem State.referred_ownClaimOutcome (s : State) : s.referred.ownClaimOutcome = s.ownClaimOutcome := by
  obtain ⟨hbus, hsid, -⟩ := s.referred_rest
  exact State.ownClaimOutcome_congr hbus (congrArg BitVec.toNat hsid)

theorem State.referred_peer (s : State) {k : Nat} (hk : k < 16) : s.referred.peer k = (s.updatedPeer k).1 := by
  obtain ⟨-, -, -, -, l, h⟩ := s.referred_rest
  simp [State.peer, h, hk]

/-! ### Records offered, none of them SEQ_ADOPTED -/

/-- Between two states records have been offered, none of them SEQ_ADOPTED. -/
def State.offersNoAdoption (s t : State) : Prop :=
  ∃ rs : List EventRecord, t.events = rs.foldl EventQueue.offer s.events ∧ ∀ r ∈ rs, r.kind ≠ .seqAdopted

theorem State.offersNoAdoption.offersMore {s t : State} (h : s.offersNoAdoption t) : s.offersMore t :=
  h.imp fun _ h => h.1

theorem State.offersNoAdoption_of_eq {s t : State} (h : t.events = s.events) : s.offersNoAdoption t :=
  ⟨[], h, fun _ hr => absurd hr List.not_mem_nil⟩

theorem State.offersNoAdoption_single {s t : State} {r : EventRecord} (h : t.events = s.events.offer r) (hr : r.kind ≠ .seqAdopted) :
    s.offersNoAdoption t := ⟨[r], h, fun x hx => by rw [List.mem_singleton.mp hx]; exact hr⟩

theorem State.offersNoAdoption_trans {s t u : State} (h : s.offersNoAdoption t) (h' : t.offersNoAdoption u) : s.offersNoAdoption u := by
  obtain ⟨rs, he, hk⟩ := h
  obtain ⟨rs', he', hk'⟩ := h'
  exact ⟨rs ++ rs', by rw [he', he, List.foldl_append], fun r hr => (List.mem_append.mp hr).elim (hk r) (hk' r)⟩

theorem PeerState.update_kind (p : PeerState) (heard leaving : Bool) : (p.update heard leaving).2 ≠ some .seqAdopted := by
  cases p <;> cases heard <;> cases leaving <;> decide

theorem State.updatePeers_noAdoption (s : State) : s.offersNoAdoption s.updatePeers := by
  refine ⟨_, rfl, fun r hr hkind => ?_⟩
  obtain ⟨k, -, h⟩ := List.mem_filterMap.mp hr
  obtain ⟨kind, hk, rfl⟩ := Option.map_eq_some_iff.mp h
  cases hkind
  unfold State.updatedPeer at hk
  dsimp only at hk
  split at hk
  · cases hk
  · split at hk <;> exact PeerState.update_kind _ _ _ hk

theorem State.abortItem_noAdoption (s : State) : s.offersNoAdoption s.abortItem := by
  unfold State.abortItem
  split
  · exact State.offersNoAdoption_single rfl nofun
  · exact State.offersNoAdoption_of_eq rfl

theorem State.exitMember_noAdoption (s : State) : s.offersNoAdoption s.exitMember := by
  by_cases hm : s.station = .member
  · rw [State.exitMember_eq hm]
    refine State.offersNoAdoption_trans s.abortItem_noAdoption ⟨_, rfl, fun r hr => ?_⟩
    obtain ⟨e, -, rfl⟩ := List.mem_map.mp hr
    exact nofun
  · rw [s.exitMember_of_ne hm]
    exact State.offersNoAdoption_of_eq rfl

/-- The record of an isolation (R58, R59). -/
def isolatedRecord (frame : Byte) (why : IsolationReason) : EventRecord :=
  { kind := .isolated, frame := frame, channel := some why.code }

/-- ISOLATED is offered before or after the records of the exit from MEMBER. -/
theorem State.enterIsolated_events (s : State) (why : IsolationReason) :
    (s.enterIsolated why).events = (s.offer (isolatedRecord s.timer.frame why)).exitMember.events ∨
    (s.enterIsolated why).events = (s.exitMember.offer (isolatedRecord s.timer.frame why)).events := by
  unfold State.enterIsolated
  dsimp only
  split
  · split
    · exact .inl rfl
    · exact .inr rfl
  · next hm => exact .inr (by rw [s.exitMember_of_ne hm]; rfl)

theorem State.enterIsolated_record (s : State) (why : IsolationReason) : ∃ rs rs' : List EventRecord,
    (s.enterIsolated why).events =
      rs'.foldl EventQueue.offer ((rs.foldl EventQueue.offer s.events).offer (isolatedRecord s.timer.frame why)) := by
  rcases s.enterIsolated_events why with h | h
  · obtain ⟨rs, hrs⟩ := (s.offer (isolatedRecord s.timer.frame why)).exitMember_offers
    exact ⟨[], rs, h.trans hrs⟩
  · obtain ⟨rs, hrs⟩ := s.exitMember_offers
    exact ⟨rs, [], h.trans (congrArg (EventQueue.offer · _) hrs)⟩

theorem isolatedRecord_kind (frame : Byte) (why : IsolationReason) : (isolatedRecord frame why).kind ≠ .seqAdopted :=
  show EventKind.isolated ≠ .seqAdopted by decide

theorem State.enterIsolated_noAdoption (s : State) (why : IsolationReason) : s.offersNoAdoption (s.enterIsolated why) := by
  rcases s.enterIsolated_events why with h | h
  · exact State.offersNoAdoption_trans (State.offersNoAdoption_single rfl (isolatedRecord_kind _ why)) (State.offersNoAdoption_trans
      (s.offer (isolatedRecord s.timer.frame why)).exitMember_noAdoption (State.offersNoAdoption_of_eq h))
  · exact State.offersNoAdoption_trans s.exitMember_noAdoption (State.offersNoAdoption_single h (isolatedRecord_kind _ why))

/-! ### Steps 3 and 4 (R58, R59) -/

/-- The station with its new streak (R58). -/
def State.streaked (s : State) : State :=
  s.setMembership { s.membership with streak := nextStreak s.membership.streak s.ownClaimOutcome }

theorem State.checkDuplicate_of_quiet {s : State} (h : s.station.announces = false) : s.checkDuplicate = s :=
  if_neg (by rw [h]; decide)

theorem State.checkDuplicate_of_below {s : State} (h : s.station.announces = true)
    (hn : s.ownClaimOutcome = .collided → s.membership.streak = 0) : s.checkDuplicate = s.streaked := by
  have hlt : nextStreak s.membership.streak s.ownClaimOutcome < 2 :=
    nextStreak_lt_two ((em (s.ownClaimOutcome = .collided)).symm.imp_right hn)
  exact (if_pos h).trans (if_neg (Nat.not_le.mpr hlt))

theorem State.checkDuplicate_of_limit {s : State} (h : s.station.announces = true) (ho : s.ownClaimOutcome = .collided)
    (hs : s.membership.streak = 1) : s.checkDuplicate = s.streaked.enterIsolated .duplicate :=
  (if_pos h).trans (if_pos (by rw [ho, hs]; decide))

/-- The station with its new count of foreign-only frames (R59). -/
def State.foreignCounted (s : State) : State := s.setMembership { s.membership with foreignOnly := s.nextForeignOnly }

theorem State.foreignOnlyFrame_iff (s : State) : s.foreignOnlyFrame = true ↔ s.onlyForeign := by
  simp only [State.foreignOnlyFrame, State.onlyForeign, Bool.and_eq_true, List.any_eq_true, List.all_eq_true, List.mem_filter,
    List.mem_range, bne_iff_ne, beq_iff_eq, Option.isNone_iff_eq_none, and_imp, and_assoc]

theorem State.nextForeignOnly_of_foreign {s : State} (h : s.onlyForeign) : s.nextForeignOnly = s.membership.foreignOnly + 1 :=
  if_pos (s.foreignOnlyFrame_iff.mpr h)

theorem State.nextForeignOnly_of_not {s : State} (h : ¬ s.onlyForeign) : s.nextForeignOnly = 0 :=
  if_neg fun hf => h (s.foreignOnlyFrame_iff.mp hf)

theorem State.nextForeignOnly_lt {s : State} (h : s.foreignBelowLimit) : s.nextForeignOnly < 4 := by
  by_cases hf : s.onlyForeign
  · rw [State.nextForeignOnly_of_foreign hf]
    rcases h with h | h
    · omega
    · exact absurd hf h.2
  · rw [State.nextForeignOnly_of_not hf]
    omega

theorem State.nextForeignOnly_congr {s t : State} (hb : t.bus = s.bus) (hs : t.sid = s.sid)
    (hm : t.membership.foreignOnly = s.membership.foreignOnly) : t.nextForeignOnly = s.nextForeignOnly := by
  have hheard (k : Nat) : t.heardFrom k = s.heardFrom k := State.heardFrom_congr hb k
  have hframe : t.foreignOnlyFrame = s.foreignOnlyFrame := by simp only [State.foreignOnlyFrame, State.me, hb, hs, hheard]
  rw [State.nextForeignOnly, hframe, hm, State.nextForeignOnly]

theorem State.referred_nextForeignOnly (s : State) : s.referred.nextForeignOnly = s.nextForeignOnly := by
  obtain ⟨hbus, hsid, -, -, l, hm⟩ := s.referred_rest
  exact State.nextForeignOnly_congr hbus hsid ((congrArg Membership.foreignOnly hm).trans rfl)

/-- What steps 3 and 4 leave: the frame number; the station state, or ISOLATED; outside an exit from MEMBER the Agreement Unit. -/
def State.judges (s t : State) : Prop :=
  t.timer.frame = s.timer.frame ∧ (t.station = s.station ∨ t.station = .isolated) ∧
  (s.station ≠ .member ∨ t.station = .member → t.agree = s.agree) ∧ s.offersNoAdoption t

theorem State.judges_trans {s t u : State} (h : s.judges t) (h' : t.judges u) : s.judges u := by
  obtain ⟨hf, hs, ha, he⟩ := h
  obtain ⟨hf', hs', ha', he'⟩ := h'
  refine ⟨hf'.trans hf, ?_, fun hm => ?_, State.offersNoAdoption_trans he he'⟩
  · exact hs'.elim (fun h' => hs.imp h'.trans h'.trans) .inr
  · have ht : s.station ≠ .member ∨ t.station = .member := hm.imp_right fun hu => by
      rcases hs' with h' | h'
      · exact h' ▸ hu
      · rw [h'] at hu; cases hu
    have hu : t.station ≠ .member ∨ u.station = .member := by
      rcases hm with hm | hm
      · refine .inl fun htm => ?_
        rcases hs with h | h
        · exact hm (h ▸ htm)
        · rw [h] at htm; cases htm
      · exact .inr hm
    exact (ha' hu).trans (ha ht)

theorem State.judges_setMembership (s : State) {m : Membership} (h : m.station = s.membership.station) : s.judges (s.setMembership m) :=
  ⟨rfl, .inl h, fun _ => rfl, State.offersNoAdoption_of_eq rfl⟩

theorem State.judges_enterIsolated (s : State) (why : IsolationReason) : s.judges (s.enterIsolated why) := by
  obtain ⟨ht, hm, -, ha⟩ := s.enterIsolated_fields why
  have hs : (s.enterIsolated why).station = .isolated := congrArg Membership.station hm
  refine ⟨by rw [ht], .inr hs, fun h => ?_, s.enterIsolated_noAdoption why⟩
  have hne : s.station ≠ .member := h.resolve_right (by rw [hs]; decide)
  rw [ha, s.exitMember_of_ne hne]

theorem State.judges_isolate (s : State) {m : Membership} (h : m.station = s.membership.station) (why : IsolationReason) :
    s.judges ((s.setMembership m).enterIsolated why) :=
  State.judges_trans (t := s.setMembership m) (s.judges_setMembership h) (State.judges_enterIsolated _ _)

theorem State.judges_checkDuplicate (s : State) : s.judges s.checkDuplicate := by
  rcases s.checkDuplicate_cases with ⟨-, h⟩ | ⟨n, -, ⟨-, h⟩ | ⟨-, h⟩⟩ <;> rw [h]
  · exact s.judges_setMembership (m := s.membership) rfl
  · exact s.judges_setMembership rfl
  · exact s.judges_isolate (m := { s.membership with streak := n }) rfl _

theorem State.judges_checkConfig (s : State) : s.judges s.checkConfig := by
  rcases s.checkConfig_cases with h | ⟨-, n, h | h⟩ <;> rw [h]
  · exact s.judges_setMembership (m := s.membership) rfl
  · exact s.judges_setMembership rfl
  · exact s.judges_isolate (m := { s.membership with foreignOnly := n }) rfl _

/-- Step 5: LISTENING is entered from JOINING only, with frame number 0, and every other outcome keeps the number. -/
theorem State.checkJoining_outcome (s : State) :
    ((s.checkJoining.station = .listening ∧ s.station = .joining ∧ s.checkJoining.timer.frame = 0) ∨
      (s.checkJoining.timer.frame = s.timer.frame ∧ (s.checkJoining.station = .listening → s.station = .listening))) ∧
    (s.checkJoining.station = s.station ∨ s.station = .joining) ∧ s.checkJoining.agree = s.agree ∧
    s.offersNoAdoption s.checkJoining := by
  by_cases hj : s.station = .joining
  · by_cases ht : s.nextSent = 3 ∧ s.countJoining.heardByAllMembers = true
    · rw [State.checkJoining_of_admitted hj ht.1 ht.2]
      exact ⟨.inr ⟨rfl, nofun⟩, .inr hj, rfl,
        State.offersNoAdoption_single (r := { kind := .admitted, frame := s.timer.frame }) rfl nofun⟩
    · rcases Nat.lt_or_ge (s.membership.joiningFrames + 1) 16 with hm | hm
      · rw [State.checkJoining_of_waiting hj ht hm]
        exact ⟨.inr ⟨rfl, id⟩, .inr hj, rfl, State.offersNoAdoption_of_eq rfl⟩
      · rw [State.checkJoining_of_timeout hj ht hm, State.enterListening_of_ne (show _ ≠ StationState.member by
          show s.station ≠ .member; rw [hj]; decide)]
        exact ⟨.inl ⟨rfl, hj, rfl⟩, .inr hj, rfl,
          State.offersNoAdoption_single (r := { kind := .joinTimeout, frame := s.timer.frame }) rfl nofun⟩
  · rw [State.checkJoining_of_other hj]
    exact ⟨.inr ⟨rfl, id⟩, .inl rfl, rfl, State.offersNoAdoption_of_eq rfl⟩

/-! ### The close in the states of the rig -/

theorem StationState.keepsPeers_of_announces {st : StationState} (h : st.announces = true) : st.keepsPeers = true := by
  cases st with
  | joining => rfl
  | member => rfl
  | leaving => rfl
  | _ => cases h

/-- Steps 3 to 5 in a station that announces: the frame number is the one after step 2, or 0 in LISTENING. -/
theorem State.membershipClose_outcome {s : State} (ha : s.station.announces = true) :
    (s.membershipClose.1.station = .listening → s.station = .joining ∧ s.membershipClose.1.timer.frame = 0) ∧
    (s.membershipClose.1.station ≠ .listening → s.membershipClose.1.timer.frame = s.referred.timer.frame) ∧
    (s.station ≠ .member ∨ s.membershipClose.1.station = .member → s.membershipClose.1.agree = s.agree) ∧
    s.referred.offersNoAdoption s.membershipClose.1 := by
  obtain ⟨-, -, -, hagree, -⟩ := s.referred_rest
  have hst := s.referred_station
  obtain ⟨hf, hs, ha', he⟩ := State.judges_trans s.referred.judges_checkDuplicate (State.judges_checkConfig _)
  obtain ⟨hout, hs', ha'', he'⟩ := s.referred.checkDuplicate.checkConfig.checkJoining_outcome
  rw [State.membershipClose_of_keepsPeers (StationState.keepsPeers_of_announces ha)]
  dsimp only
  generalize s.referred.checkDuplicate.checkConfig.checkJoining = y at *
  generalize s.referred.checkDuplicate.checkConfig = x at *
  rw [hst] at hs ha'
  have hl : x.station ≠ .listening := by
    rcases hs with h | h <;> rw [h]
    · intro h'
      rw [h'] at ha
      cases ha
    · decide
  refine ⟨fun hy => ?_, fun hy => ?_, fun hm => ha''.trans ((ha' ?_).trans hagree), State.offersNoAdoption_trans he he'⟩
  · rcases hout with ⟨-, hj, h0⟩ | ⟨-, h⟩
    · exact ⟨(hs.resolve_right (by rw [hj]; decide)).symm.trans hj, h0⟩
    · exact absurd (h hy) hl
  · rcases hout with ⟨hy', -⟩ | ⟨h, -⟩
    · exact absurd hy' hy
    · exact h.trans hf
  · refine hm.elim .inl fun hy => ?_
    rcases hs' with h | h
    · exact .inr (h ▸ hy)
    · refine .inl fun hm' => ?_
      rw [hm', h] at hs
      rcases hs with h | h <;> cases h

/-- A MEMBER or LEAVING station whose streak stays below its limit stays what it is (R58). -/
theorem State.membershipClose_of_settled {s : State} (hs : s.station = .member ∨ s.station = .leaving)
    (hn : s.ownClaimOutcome = .collided → s.membership.streak = 0) : s.membershipClose.1 = s.referred.streaked := by
  obtain ⟨-, -, -, -, l, hm⟩ := s.referred_rest
  have ha : s.station.announces = true := by rcases hs with h | h <;> rw [h] <;> rfl
  have hst : s.referred.streaked.station = s.station := s.referred_station
  have hdup : s.referred.checkDuplicate = s.referred.streaked :=
    State.checkDuplicate_of_below (by rw [s.referred_station]; exact ha) fun ho => by
      rw [s.referred_ownClaimOutcome] at ho
      rw [hm]
      exact hn ho
  have hne : s.referred.streaked.station ≠ .listening ∧ s.referred.streaked.station ≠ .joining := by
    rw [hst]
    rcases hs with h | h <;> rw [h] <;> decide
  rw [State.membershipClose_of_keepsPeers (StationState.keepsPeers_of_announces ha), hdup, State.checkConfig_of_other hne.1 hne.2,
    State.checkJoining_of_other hne.2]

/-- The first four steps in JOINING, below both limits. -/
def State.judged (s : State) : State := s.referred.streaked.foreignCounted

theorem State.membershipClose_of_joining {s : State} (hj : s.station = .joining)
    (hn : s.ownClaimOutcome = .collided → s.membership.streak = 0) (hf : s.foreignBelowLimit) :
    s.membershipClose.1 = s.judged.checkJoining := by
  obtain ⟨-, -, -, -, l, hm⟩ := s.referred_rest
  have hst : s.referred.station = .joining := s.referred_station.trans hj
  have hdup : s.referred.checkDuplicate = s.referred.streaked := State.checkDuplicate_of_below (by rw [hst]; rfl) fun ho => by
    rw [s.referred_ownClaimOutcome] at ho
    rw [hm]
    exact hn ho
  have hnext : s.referred.streaked.nextForeignOnly = s.nextForeignOnly := s.referred_nextForeignOnly
  rw [State.membershipClose_of_keepsPeers (by rw [hj]; rfl), hdup, State.checkConfig_of_below (s := s.referred.streaked) (.inr hst) (by
    rw [hnext]; exact State.nextForeignOnly_lt hf)]
  rfl

/-- LISTENING below the limit: only the reference and the count move. -/
theorem State.membershipClose_of_listening {s : State} (hl : s.station = .listening) (hf : s.foreignBelowLimit) :
    s.membershipClose.1 = s.referred.foreignCounted := by
  have hst : s.referred.station = .listening := s.referred_station.trans hl
  have hst' : s.referred.foreignCounted.station = .listening := hst
  rw [State.membershipClose_of_keepsPeers (by rw [hl]; rfl), State.checkDuplicate_of_quiet (by rw [hst]; rfl),
    State.checkConfig_of_below (.inl hst) (by rw [s.referred_nextForeignOnly]; exact State.nextForeignOnly_lt hf)]
  exact State.checkJoining_of_other (s := s.referred.foreignCounted) (by rw [hst']; decide)

/-- A second collision in a row (R58). -/
theorem State.membershipClose_of_duplicate {s : State} (ha : s.station.announces = true) (ho : s.ownClaimOutcome = .collided)
    (hn : s.membership.streak = 1) : s.membershipClose.1 = s.referred.streaked.enterIsolated .duplicate := by
  obtain ⟨-, -, -, -, l, hm⟩ := s.referred_rest
  have hst : (s.referred.streaked.enterIsolated .duplicate).station = .isolated :=
    congrArg Membership.station (State.enterIsolated_fields _ .duplicate).2.1
  rw [State.membershipClose_of_keepsPeers (StationState.keepsPeers_of_announces ha),
    State.checkDuplicate_of_limit (by rw [s.referred_station]; exact ha) (s.referred_ownClaimOutcome.trans ho) (by rw [hm]; exact hn),
    State.checkConfig_of_other (by rw [hst]; decide) (by rw [hst]; decide), State.checkJoining_of_other (by rw [hst]; decide)]

/-- A fourth foreign-only frame (R59). -/
theorem State.membershipClose_of_config {s : State} (hf : s.membership.foreignOnly = 3) (ho : s.onlyForeign)
    (hs : s.station = .listening ∨ (s.station = .joining ∧ (s.ownClaimOutcome = .collided → s.membership.streak = 0))) :
    ∃ w, s.referred.offersMore w ∧ w.station = s.station ∧ s.membershipClose.1 = w.enterIsolated .config := by
  obtain ⟨-, -, -, -, l, hm⟩ := s.referred_rest
  have hlimit : 4 ≤ s.nextForeignOnly := by rw [State.nextForeignOnly_of_foreign ho, hf]
  have hkeeps : s.station.keepsPeers = true := by rcases hs with h | ⟨h, -⟩ <;> rw [h] <;> rfl
  have hdup : ∃ m, s.referred.checkDuplicate = s.referred.setMembership m ∧ m.station = s.station ∧
      m.foreignOnly = s.membership.foreignOnly := by
    rcases hs with h | ⟨h, hn⟩
    · exact ⟨s.referred.membership, State.checkDuplicate_of_quiet (by rw [s.referred_station, h]; rfl), s.referred_station, by rw [hm]⟩
    · refine ⟨_, State.checkDuplicate_of_below (by rw [s.referred_station, h]; rfl) fun ho => ?_, s.referred_station, by rw [hm]⟩
      rw [s.referred_ownClaimOutcome] at ho
      rw [hm]
      exact hn ho
  obtain ⟨m, hdup, hst, hcount⟩ := hdup
  obtain ⟨hbus, hsid, -⟩ := s.referred_rest
  have hnext : (s.referred.setMembership m).nextForeignOnly = s.nextForeignOnly := State.nextForeignOnly_congr hbus hsid hcount
  have hiso (w : State) : (w.enterIsolated .config).station = .isolated :=
    congrArg Membership.station (State.enterIsolated_fields w .config).2.1
  refine ⟨(s.referred.setMembership m).foreignCounted, State.offersMore_of_eq rfl, hst, ?_⟩
  have hst' : (s.referred.setMembership m).station = s.station := hst
  rw [State.membershipClose_of_keepsPeers hkeeps, hdup, State.checkConfig_of_limit (by rw [hst']; exact hs.imp_right And.left)
    (by rw [hnext]; exact hlimit)]
  exact State.checkJoining_of_other (s := (s.referred.setMembership m).foreignCounted.enterIsolated .config) (by rw [hiso]; decide)

/-- What the steps before the fifth leave of a JOINING station. -/
theorem State.judged_rest (s : State) : s.judged.timer.frame = s.referred.timer.frame ∧ s.judged.demand = s.demand ∧
    s.judged.station = s.station ∧ s.judged.nextSent = nextJoiningSent s.membership.joiningSent s.ownClaimOutcome ∧
    s.judged.membership.joiningFrames = s.membership.joiningFrames ∧ s.judged.membership.foreignOnly = s.nextForeignOnly ∧
    s.judged.membership.streak = nextStreak s.membership.streak s.ownClaimOutcome ∧ s.offersMore s.judged := by
  obtain ⟨-, -, hd, -, l, hm⟩ := s.referred_rest
  have ho := s.referred_ownClaimOutcome
  refine ⟨rfl, hd, s.referred_station, ?_, ?_, s.referred_nextForeignOnly, ?_, ?_⟩
  · show nextJoiningSent s.referred.membership.joiningSent s.referred.ownClaimOutcome = _
    rw [ho, hm]
  · show s.referred.membership.joiningFrames = _
    rw [hm]
  · show nextStreak s.referred.membership.streak s.referred.ownClaimOutcome = _
    rw [ho, hm]
  · refine State.offersMore_trans s.updatePeers_noAdoption.offersMore (State.offersMore_trans (t := s.referred) ?_ (State.offersMore_of_eq rfl))
    rcases s.updatePeers.applyReference_cases with h | ⟨f, h⟩ | ⟨f, r, h⟩ <;> rw [State.referred, h]
    · exact State.offersMore_refl _
    · exact State.offersMore_of_eq rfl
    · exact ⟨[r], rfl⟩

/-- A peer is MEMBER after the update exactly where it was heard, not LEAVING, and one frame short of MEMBER or further (R45). -/
theorem State.updatedPeer_member (s : State) {k : Nat} (hk : k ≠ s.me) : (s.updatedPeer k).1.state = .member ↔
    ∃ step a, s.heardFrom k = some (step, a) ∧ a.leaving = false ∧
      ((s.peer k).state = .joining2 ∨ (s.peer k).state = .member ∨ (s.peer k).state = .missing1 ∨ (s.peer k).state = .missing2) := by
  unfold State.updatedPeer
  rw [if_neg hk]
  cases hh : s.heardFrom k with
  | none => cases hp : (s.peer k).state <;> simp [PeerState.update]
  | some p =>
    obtain ⟨step, a⟩ := p
    cases hl : a.leaving <;> cases hp : (s.peer k).state <;> simp [PeerState.update, hl]

/-- Every MEMBER peer after the update heard the station (R54). -/
theorem State.judged_heardByAllMembers (s : State) : s.judged.countJoining.heardByAllMembers = true ↔
    ∀ k step a, k < 16 → k ≠ s.me → s.heardFrom k = some (step, a) → a.leaving = false →
      ((s.peer k).state = .joining2 ∨ (s.peer k).state = .member ∨ (s.peer k).state = .missing1 ∨ (s.peer k).state = .missing2) →
      a.heardMap.getLsbD s.me = true := by
  obtain ⟨hbus, hsid, -⟩ := s.referred_rest
  have hme : s.judged.countJoining.me = s.me := congrArg BitVec.toNat hsid
  have hheard (k : Nat) : s.judged.countJoining.heardFrom k = s.heardFrom k := State.heardFrom_congr hbus k
  have hpeer {k : Nat} (hk : k < 16) : s.judged.countJoining.peer k = (s.updatedPeer k).1 := s.referred_peer hk
  simp only [State.heardByAllMembers, List.all_eq_true, List.mem_range, Bool.or_eq_true, beq_iff_eq, bne_iff_ne, hme, hheard]
  refine ⟨fun h k step a hk hne hh hl hp => ?_, fun h k hk => ?_⟩
  · have hm := (s.updatedPeer_member hne).mpr ⟨step, a, hh, hl, hp⟩
    rcases h k hk with (h | h) | h
    · exact absurd h hne
    · exact absurd (by rw [hpeer hk]; exact hm) h
    · rwa [hh] at h
  · by_cases hne : k = s.me
    · exact .inl (.inl hne)
    · by_cases hm : (s.updatedPeer k).1.state = .member
      · obtain ⟨step, a, hh, hl, hp⟩ := (s.updatedPeer_member hne).mp hm
        rw [hh]
        exact .inr (h k step a hk hne hh hl hp)
      · exact .inl (.inr (by rw [hpeer hk]; exact hm))

end Sys2Proof.Machine

namespace Sys2Proof.Proofs

open Sys2Proof.Machine

/-- Settles O37: no step of the Membership Unit. -/
theorem closeOutsideTheRig : Obligations.CloseOutsideTheRig := by
  unfold Obligations.CloseOutsideTheRig
  intro s c h hs hv
  refine .of_eq (exec_claimPhaseClose_of_awaits h) ?_
  have hclose : (s.reach c c.placeClaimClose c.claimClose).membershipClose = (s.reach c c.placeClaimClose c.claimClose, none) :=
    if_neg (by rcases hs with hs | hs <;> rw [State.reach_station, hs] <;> decide)
  have hne : (s.reach c c.placeClaimClose c.claimClose).membershipClose.1.station ≠ .member := by
    rw [hclose]
    rcases hs with hs | hs <;> rw [State.reach_station, hs] <;> decide
  obtain ⟨hstatus, hlist⟩ := State.closeClaims_of_not_member _ c hne
  have hval : (s.reach c c.placeClaimClose c.claimClose).timer.value = c.claimClose := s.reach_value c _ _ h.2.1 hv c.claimClose_le
  have htimer : ((s.reach c c.placeClaimClose c.claimClose).closeClaims c).timer = (s.reach c c.placeClaimClose c.claimClose).timer :=
    congrArg (fun r : State × Option Nat => r.1.timer) hclose
  refine ⟨by rw [htimer]; exact hval, by rw [htimer]; rfl, ?_, hstatus, hlist, rfl, ?_, ?_⟩
  · exact congrArg (fun r : State × Option Nat => { r.1.agree with adoption := r.2 }) hclose
  · exact State.engineKept_of_eq (s.reach_engineKept c c.placeClaimClose c.claimClose)
      (congrArg (fun r : State × Option Nat => r.1.engine) hclose)
  · rw [State.closeClaims, hclose]
    exact State.onlyChanges_comp (s.reach_frame c c.placeClaimClose c.claimClose)
      (State.onlyChanges_comp (State.setAgree_frame _ _) (State.setAlloc_frame _ _) (m := [.agree, .alloc]) (by decide)) (by decide)

end Sys2Proof.Proofs
end

section
/-! The statements about claim phase close (O34 to O36). -/

namespace Sys2Proof.Machine

theorem nextStreak_of_collided {n : Nat} {o : TxOutcome} (h : o = .collided) : nextStreak n o = n + 1 := by rw [h]; rfl

theorem nextStreak_of_other {n : Nat} {o : TxOutcome} (h : o ≠ .collided) : nextStreak n o = 0 := by
  cases o with
  | collided => exact absurd rfl h
  | _ => rfl

/-- Steps 1 and 2 without an adoption offer no SEQ_ADOPTED record, and the close has no adoption to hand on (R90). -/
theorem State.referred_of_kept {s : State} (hl : s.station ≠ .listening) (h : ∀ k f, s.referenceIs k f → f = s.timer.frame) :
    s.referred = s.updatePeers ∧ s.updatePeers.applyReference.2 = none := by
  rw [State.referred, State.applyReference_of_kept hl h]
  exact ⟨rfl, rfl⟩

theorem State.closeClaims_adoption {s : State} (hk : s.station.keepsPeers = true) (c : Settings) :
    (s.closeClaims c).agree.adoption = s.updatePeers.applyReference.2 :=
  (congrArg Prod.snd (State.membershipClose_of_keepsPeers hk)).trans rfl

/-- Where the five steps lead, the close leaves but for the Allocator and the adoption notice. -/
theorem State.closeClaims_of {s y : State} (h : s.membershipClose.1 = y) (c : Settings) :
    (s.closeClaims c).membership = y.membership ∧ (s.closeClaims c).timer = y.timer ∧ (s.closeClaims c).events = y.events ∧
    (s.closeClaims c).demand = y.demand := by
  subst h
  exact ⟨rfl, rfl, rfl, rfl⟩

end Sys2Proof.Machine

namespace Sys2Proof.Proofs

open Sys2Proof.Machine

/-- Settles O34: the reference, adopted or kept, and the listening reference. -/
theorem referenceFrameNumber : Obligations.ReferenceFrameNumber := by
  unfold Obligations.ReferenceFrameNumber
  refine ⟨fun s c h hs => ?_, fun s c h hl hf => ?_⟩
  · intro stays
    have hexec := exec_claimPhaseClose_of_awaits h
    generalize hr : s.reach c c.placeClaimClose c.claimClose = r at hexec
    have hst : r.station = s.station := by rw [← hr]; rfl
    have hev : r.events = s.events := by rw [← hr]; rfl
    have hfr : r.timer.frame = s.timer.frame := by rw [← hr]; rfl
    have hagree : r.agree = s.agree := by rw [← hr]; rfl
    have href (k : Nat) (f : Byte) : r.referenceIs k f ↔ s.referenceIs k f := by rw [← hr]; rfl
    have ha : r.station.announces = true := by rcases hs with hs | hs | hs <;> rw [hst, hs] <;> rfl
    have hl : r.station ≠ .listening := fun h => by rw [h] at ha; cases ha
    obtain ⟨hlisten, hframe, hkeep, hevents⟩ := State.membershipClose_outcome ha
    have hstays : stays (r.closeClaims c) := by
      refine ⟨fun hne ho => ?_, rfl, fun hl => by rw [← hst]; exact hlisten hl⟩
      have hsettled := State.membershipClose_of_settled (s := r) (by rw [hst]; exact hs.resolve_left hne) fun hcol => by
        rw [← hr] at hcol ⊢
        exact ho.resolve_left fun h => h hcol
      rw [← hst, ← r.referred_station]
      exact (congrArg Membership.station (State.closeClaims_of hsettled c).1).trans rfl
    have hadopt := State.closeClaims_adoption (StationState.keepsPeers_of_announces ha) c
    have hrest (x : Option Nat) (hx : r.updatePeers.applyReference.2 = x) :
        s.station ≠ .member ∨ (r.closeClaims c).station = .member → (r.closeClaims c).agree = { s.agree with adoption := x } := by
      intro hm
      rw [hx] at hadopt
      rw [← hst] at hm
      rw [← hagree, ← hkeep hm, ← hadopt]
      rfl
    refine ⟨fun k f hk hne => .of_eq hexec ?_, fun hall => .of_eq hexec ?_⟩
    · have happ := State.applyReference_of_adopted hl ((href k f).mpr hk) (by rw [hfr]; exact hne)
      have hv : r.referred.timer.frame = f := (State.referred_frame hl).1 k f ((href k f).mpr hk)
      have h2 := congrArg Prod.snd happ
      refine ⟨hstays, fun hne => (hframe hne).trans hv, hadopt.trans h2, hrest _ h2, ?_⟩
      obtain ⟨rs, hrs⟩ := r.updatePeers_noAdoption.offersMore
      obtain ⟨rs', hrs'⟩ := hevents.offersMore
      refine ⟨rs, rs', hrs'.trans ?_⟩
      rw [← hev, ← hrs, State.referred, happ]
      rfl
    · obtain ⟨hv, h2⟩ := State.referred_of_kept hl fun k f hk => (hall k f ((href k f).mp hk)).trans hfr.symm
      refine ⟨hstays, fun hne => ?_, hadopt.trans h2, hrest _ h2, ?_⟩
      · rw [← hfr]
        exact (hframe hne).trans (by rw [hv]; rfl)
      · rw [← hev]
        exact State.offersNoAdoption_trans r.updatePeers_noAdoption (hv ▸ hevents)
  · refine .of_eq (exec_claimPhaseClose_of_awaits h) ?_
    generalize hr : s.reach c c.placeClaimClose c.claimClose = r
    have hst : r.station = .listening := by rw [← hr]; exact hl
    have hob : r.membership.observation = s.membership.observation ∧ r.membership.listenRef = s.membership.listenRef ∧
        r.timer.frame = s.timer.frame := by
      rw [← hr]
      exact ⟨rfl, rfl, rfl⟩
    have href (k : Nat) (f : Byte) : r.referenceIs k f ↔ s.referenceIs k f := by rw [← hr]; rfl
    have hclose := State.membershipClose_of_listening hst (by rw [← hr]; exact hf)
    have hmem : (r.closeClaims c).membership = r.referred.foreignCounted.membership := (State.closeClaims_of hclose c).1
    have hstation : (r.closeClaims c).station = .listening :=
      (congrArg Membership.station hmem).trans (r.referred_station.trans hst)
    have hlisten : (r.closeClaims c).membership.listenRef = r.referred.membership.listenRef := (congrArg Membership.listenRef hmem).trans rfl
    have hframe : (r.closeClaims c).timer.frame = r.referred.timer.frame := congrArg FrameTimer.frame (State.closeClaims_of hclose c).2.1
    have hne : r.membershipClose.1.station ≠ .member := by
      rw [show r.membershipClose.1.station = _ from hstation]; decide
    refine ⟨hstation, ?_, fun ho => ?_, fun ho => ?_, (State.closeClaims_of_not_member r c hne).1, rfl⟩
    · rw [hframe, ← hob.2.2]
      cases ho : s.membership.observation with
      | observing => rw [State.applyReference_of_observing hst (hob.1.trans ho)]; rfl
      | unaligned => rw [State.applyReference_of_unaligned hst (hob.1.trans ho)]; rfl
    · have hkept : (r.closeClaims c).membership.listenRef = r.reference.map (·.2) := by
        rw [hlisten, State.applyReference_of_observing hst (hob.1.trans ho)]
        rfl
      refine ⟨fun k f hk => ?_, fun hk => ?_⟩
      · rw [hkept, (r.reference_eq_some k f).mpr ((href k f).mpr hk)]
        rfl
      · rw [hkept, r.reference_eq_none.mpr fun k f hk' => hk k f ((href k f).mp hk')]
        rfl
    · rw [hlisten, State.applyReference_of_unaligned hst (hob.1.trans ho)]
      exact hob.2.1

/-- Settles O35: both limits, and the counts below them. -/
theorem isolation : Obligations.Isolation := by
  unfold Obligations.Isolation
  intro s c h isolated foreignOnly
  have hexec := exec_claimPhaseClose_of_awaits h
  generalize hr : s.reach c c.placeClaimClose c.claimClose = r at hexec
  have hst : r.station = s.station := by rw [← hr]; rfl
  have hev : r.events = s.events := by rw [← hr]; rfl
  have hdemand : r.demand = s.demand := by rw [← hr]; rfl
  have hmem : r.membership = s.membership := by rw [← hr]; rfl
  have hout : r.ownClaimOutcome = s.ownClaimOutcome := by rw [← hr]; rfl
  have hforeign : r.onlyForeign ↔ foreignOnly := by rw [← hr]; rfl
  have hnext1 (hf : foreignOnly) : r.nextForeignOnly = s.membership.foreignOnly + 1 := by
    rw [State.nextForeignOnly_of_foreign (hforeign.mpr hf), hmem]
  have hnext0 (hf : ¬ foreignOnly) : r.nextForeignOnly = 0 := State.nextForeignOnly_of_not fun h => hf (hforeign.mp h)
  have hbelow (hb : s.foreignBelowLimit) : r.foreignBelowLimit := by rw [← hr]; exact hb
  have hisolated (why : IsolationReason) (w : State) (hclose : r.membershipClose.1 = w.enterIsolated why)
      (hw : r.offersMore w) : isolated why (r.closeClaims c) := by
    obtain ⟨ht, hm, -, -⟩ := w.enterIsolated_fields why
    have hm' : (r.closeClaims c).membership = w.membership.withdraw .isolated (some why) :=
      (State.closeClaims_of hclose c).1.trans hm
    have hstation : (r.closeClaims c).station = .isolated := congrArg Membership.station hm'
    have hne : r.membershipClose.1.station ≠ .member := by rw [show r.membershipClose.1.station = _ from hstation]; decide
    obtain ⟨hstatus, hlist⟩ := State.closeClaims_of_not_member r c hne
    obtain ⟨rs, rs', hrs⟩ := w.enterIsolated_record why
    obtain ⟨rs0, hrs0⟩ := hw
    refine ⟨hstation, by rw [State.faultPin, hstation]; rfl, by rw [State.link, hstation]; rfl, congrArg Membership.isolation hm',
      fun k => ?_, congrArg Membership.heardMap hm', congrArg Membership.streak hm', congrArg Membership.foreignOnly hm',
      congrArg Membership.leavePending hm', hstatus, rfl, hlist, rs0 ++ rs, rs', ?_⟩
    · rw [State.peer, hm']
      exact getD_replicate_self 16 k _
    · have hframe : (r.closeClaims c).timer.frame = w.timer.frame :=
        (congrArg FrameTimer.frame (State.closeClaims_of hclose c).2.1).trans ((congrArg FrameTimer.frame ht).trans rfl)
      have hevents : (r.closeClaims c).events = (w.enterIsolated why).events := (State.closeClaims_of hclose c).2.2.1
      rw [hevents, hrs, hrs0, hev, List.foldl_append, hframe]
      cases why <;> rfl
  refine ⟨fun hs ho hn => ?_, fun hs h3 hf => ?_, fun hs => ?_, fun hj ho hn hfr hfo => ?_, fun hj hn hb => ?_, fun hl hfo => ?_,
    fun hl hfo hf => ?_⟩
  · have ha : r.station.announces = true := by rcases hs with hs | hs | hs <;> rw [hst, hs] <;> rfl
    have hclose := State.membershipClose_of_duplicate ha (hout.trans ho) (by rw [hmem]; exact hn)
    have hoffers : r.offersMore r.referred.streaked := r.judged_rest.2.2.2.2.2.2.2
    refine .of_eq hexec ⟨hisolated .duplicate _ hclose hoffers, fun hm => ?_⟩
    obtain ⟨-, -, hd, hag⟩ := r.referred.streaked.enterIsolated_fields .duplicate
    have hexit := State.exitMember_eq (s := r.referred.streaked) (r.referred_station.trans (hst.trans hm))
    have hd' : (r.closeClaims c).demand = r.referred.streaked.exitMember.demand := ((State.closeClaims_of hclose c).2.2.2).trans hd
    have hag' : r.membershipClose.1.agree = r.referred.streaked.exitMember.agree := (congrArg State.agree hclose).trans hag
    rw [hexit] at hd' hag'
    exact ⟨congrArg DemandQueue.entries hd', congrArg Agreement.verdict hag', congrArg Agreement.ownDigest hag'⟩
  · obtain ⟨w, hw, -, hclose⟩ := State.membershipClose_of_config (s := r) (by rw [hmem]; exact h3) (hforeign.mpr hf) (by
      rw [hst, hout, hmem]
      exact hs.imp_right (And.imp_right fun h hc => h.resolve_left fun h => h hc))
    have hoffers : r.offersMore r.referred := r.judged_rest.2.2.2.2.2.2.2
    exact .of_eq hexec (hisolated .config w hclose (State.offersMore_trans hoffers hw))
  · have hclose (hn : s.ownClaimOutcome = .collided → s.membership.streak = 0) : (r.closeClaims c).station = s.station ∧
        (r.closeClaims c).membership.streak = nextStreak s.membership.streak s.ownClaimOutcome := by
      have hc := State.membershipClose_of_settled (s := r) (by rw [hst]; exact hs) (by rw [hout, hmem]; exact hn)
      have hm := (State.closeClaims_of hc c).1
      refine ⟨(congrArg Membership.station hm).trans (r.referred_station.trans hst), (congrArg Membership.streak hm).trans ?_⟩
      rw [← hout, ← hmem]
      exact r.judged_rest.2.2.2.2.2.2.1
    refine ⟨fun ho hn => .of_eq hexec ?_, fun ho => .of_eq hexec ?_⟩
    · obtain ⟨h1, h2⟩ := hclose fun _ => hn
      exact ⟨h1, by rw [h2, nextStreak_of_collided ho, hn]⟩
    · obtain ⟨h1, h2⟩ := hclose fun h => absurd h ho
      exact ⟨h1, by rw [h2, nextStreak_of_other ho]⟩
  · have hclose := State.membershipClose_of_joining (s := r) (hst.trans hj) (by rw [hmem]; exact fun _ => hn) (hbelow (.inl hfo))
    obtain ⟨-, -, hjst, hjsent, hjframes, hjforeign, hjstreak, -⟩ := r.judged_rest
    have hsent : r.judged.nextSent = 0 := by rw [hjsent, hout, ho]; rfl
    rw [State.checkJoining_of_waiting (hjst.trans (hst.trans hj)) (by rw [hsent]; rintro ⟨h, -⟩; cases h)
      (by rw [hjframes, hmem]; omega)] at hclose
    have hm : (r.closeClaims c).membership = _ := (State.closeClaims_of hclose c).1
    refine .of_eq hexec ⟨(congrArg Membership.station hm).trans (hjst.trans (hst.trans hj)), (congrArg Membership.streak hm).trans ?_,
      (congrArg Membership.joiningSent hm).trans hsent, fun hf => (congrArg Membership.foreignOnly hm).trans ?_,
      fun hf => (congrArg Membership.foreignOnly hm).trans ?_⟩
    · exact hjstreak.trans (by rw [hout, ho, hmem, hn]; rfl)
    · exact hjforeign.trans (hnext1 hf)
    · exact hjforeign.trans (hnext0 hf)
  · have hn' : r.ownClaimOutcome = .collided → r.membership.streak = 0 := by rw [hout, hmem]; exact hn
    have hclose := State.membershipClose_of_joining (s := r) (hst.trans hj) hn' (hbelow hb)
    obtain ⟨-, -, hjst, hjsent, hjframes, hjforeign, hjstreak, -⟩ := r.judged_rest
    have hj' : r.judged.station = .joining := hjst.trans (hst.trans hj)
    refine .of_eq hexec ?_
    by_cases ht : r.judged.nextSent = 3 ∧ r.judged.countJoining.heardByAllMembers = true
    · rw [State.checkJoining_of_admitted hj' ht.1 ht.2] at hclose
      have hm : (r.closeClaims c).membership = _ := (State.closeClaims_of hclose c).1
      have hstation : (r.closeClaims c).station = .member := congrArg Membership.station hm
      have hno : s.ownClaimOutcome ≠ .collided := fun ho => by
        rw [hjsent, hout, ho] at ht
        cases ht.1
      refine ⟨.inr (.inl hstation), fun ho => absurd ho hno, ?_, fun _ => congrArg Membership.foreignOnly hm,
        fun hne => absurd hstation hne⟩
      rw [if_neg fun h => hno h.1]
      exact (congrArg Membership.streak hm).trans (hjstreak.trans (nextStreak_of_other (by rw [hout]; exact hno)))
    · rcases Nat.lt_or_ge (r.judged.membership.joiningFrames + 1) 16 with hlt | hge
      · rw [State.checkJoining_of_waiting hj' ht hlt] at hclose
        have hm : (r.closeClaims c).membership = _ := (State.closeClaims_of hclose c).1
        have hstation : (r.closeClaims c).station = .joining := (congrArg Membership.station hm).trans hj'
        have hstreak : (r.closeClaims c).membership.streak = nextStreak s.membership.streak s.ownClaimOutcome :=
          (congrArg Membership.streak hm).trans (by rw [← hmem, ← hout]; exact hjstreak)
        have hcount : (r.closeClaims c).membership.foreignOnly = r.nextForeignOnly :=
          (congrArg Membership.foreignOnly hm).trans hjforeign
        refine ⟨.inl hstation, fun _ => by rw [hstation]; decide, ?_, fun h => ?_, fun _ => ⟨fun hf => ?_, fun hf => ?_⟩⟩
        · rw [hstreak, hstation]
          by_cases ho : s.ownClaimOutcome = .collided
          · rw [if_pos ⟨ho, rfl⟩, nextStreak_of_collided ho, hn ho]
          · rw [if_neg fun h => ho h.1, nextStreak_of_other ho]
        · rw [hstation] at h; cases h
        · exact hcount.trans (hnext1 hf)
        · exact hcount.trans (hnext0 hf)
      · rw [State.checkJoining_of_timeout hj' ht hge] at hclose
        have hm : (r.closeClaims c).membership = _ :=
          (State.closeClaims_of hclose c).1.trans (State.enterListening_membership _)
        have hstation : (r.closeClaims c).station = .listening := congrArg Membership.station hm
        have hcount : (r.closeClaims c).membership.foreignOnly = r.nextForeignOnly :=
          (congrArg Membership.foreignOnly hm).trans hjforeign
        refine ⟨.inr (.inr hstation), fun _ => by rw [hstation]; decide, ?_, fun h => ?_, fun _ => ⟨fun hf => ?_, fun hf => ?_⟩⟩
        · rw [if_neg fun h => by rw [hstation] at h; cases h.2]
          exact congrArg Membership.streak hm
        · rw [hstation] at h; cases h
        · exact hcount.trans (hnext1 hf)
        · exact hcount.trans (hnext0 hf)
  · have hm : (r.closeClaims c).membership = _ :=
      (State.closeClaims_of (State.membershipClose_of_listening (hst.trans hl) (hbelow (.inl hfo))) c).1
    have hcount : (r.closeClaims c).membership.foreignOnly = r.nextForeignOnly :=
      (congrArg Membership.foreignOnly hm).trans r.referred_nextForeignOnly
    exact .of_eq hexec ⟨(congrArg Membership.station hm).trans (r.referred_station.trans (hst.trans hl)),
      fun hf => hcount.trans (hnext1 hf), fun hf => hcount.trans (hnext0 hf)⟩
  · have hm : (r.closeClaims c).membership = _ :=
      (State.closeClaims_of (State.membershipClose_of_listening (hst.trans hl) (hbelow (.inr ⟨hfo, hf⟩))) c).1
    exact .of_eq hexec ⟨(congrArg Membership.station hm).trans (r.referred_station.trans (hst.trans hl)),
      (congrArg Membership.foreignOnly hm).trans (r.referred_nextForeignOnly.trans (hnext0 hf))⟩

/-- Settles O36: admission, the timeout, and the counts of the frames between. -/
theorem joiningEnds : Obligations.JoiningEnds := by
  unfold Obligations.JoiningEnds
  intro s c h hj hb hn sent heardByMembers adopted
  have hexec := exec_claimPhaseClose_of_awaits h
  generalize hr : s.reach c c.placeClaimClose c.claimClose = r at hexec
  have hst : r.station = .joining := by rw [← hr]; exact hj
  have hev : r.events = s.events := by rw [← hr]; rfl
  have hmem : r.membership = s.membership := by rw [← hr]; rfl
  have hout : r.ownClaimOutcome = s.ownClaimOutcome := by rw [← hr]; rfl
  have hme : r.me = s.me := by rw [← hr]; rfl
  have hclose := State.membershipClose_of_joining hst (by rw [hout, hmem]; exact hn) (by rw [← hr]; exact hb)
  obtain ⟨hjframe, hjdemand, hjst, hjsent, hjframes, -, -, rs, hrs⟩ := r.judged_rest
  have hj' : r.judged.station = .joining := hjst.trans hst
  have hsent : r.judged.nextSent = sent := by
    rw [hjsent, hmem, hout]
    show _ = (match s.ownClaimOutcome with
      | .sent => min (s.membership.joiningSent + 1) 3
      | .collided => 0
      | .none => s.membership.joiningSent)
    cases s.ownClaimOutcome <;> rfl
  have hheard : r.judged.countJoining.heardByAllMembers = true ↔ heardByMembers := by
    rw [r.judged_heardByAllMembers, ← hr]
    rfl
  have hadopted : adopted r.judged.timer.frame := by
    rw [hjframe]
    have := State.referred_frame (s := r) (by rw [hst]; decide)
    rw [← hr] at this ⊢
    exact this
  have hframes : r.judged.membership.joiningFrames = s.membership.joiningFrames := by rw [hjframes, hmem]
  rw [hev] at hrs
  have hnot (hno : sent ≠ 3 ∨ ¬ heardByMembers) :
      ¬ (r.judged.nextSent = 3 ∧ r.judged.countJoining.heardByAllMembers = true) := by
    rw [hsent, hheard]
    exact fun ⟨h1, h2⟩ => hno.elim (fun h => h h1) fun h => h h2
  refine ⟨fun h3 hh => .of_eq hexec ?_, fun hno h15 => .of_eq hexec ?_, fun hno h15 => .of_eq hexec ?_⟩
  · rw [State.checkJoining_of_admitted hj' (hsent.trans h3) (hheard.mpr hh)] at hclose
    have hm : (r.closeClaims c).membership = _ := (State.closeClaims_of hclose c).1
    have hstation : (r.closeClaims c).station = .member := congrArg Membership.station hm
    have hframe : (r.closeClaims c).timer.frame = r.judged.timer.frame := congrArg FrameTimer.frame (State.closeClaims_of hclose c).2.1
    have hme' : r.membershipClose.1.me = s.me := (State.me_congr r.membershipClose_frame).trans hme
    refine ⟨hstation, by rw [State.link, hstation]; rfl, congrArg Membership.foreignOnly hm, congrArg Membership.joiningSent hm,
      congrArg Membership.joiningFrames hm, (State.closeClaims_of_member r c hstation).1, ?_, ⟨rs, ?_⟩, hframe ▸ hadopted, ?_⟩
    · exact (State.mem_memberView r.membershipClose.1 s.me).mpr ⟨s.me_lt, .inl ⟨hme'.symm, hstation⟩⟩
    · rw [hframe, ← hrs]
      exact (State.closeClaims_of hclose c).2.2.1
    · exact ((State.closeClaims_of hclose c).2.2.2).trans (hjdemand.trans (by rw [← hr]; rfl))
  · rw [State.checkJoining_of_timeout hj' (hnot hno) (by rw [hframes, h15]),
      State.enterListening_of_ne (show _ ≠ StationState.member by show r.judged.station ≠ .member; rw [hj']; decide)] at hclose
    have hm : (r.closeClaims c).membership = _ := (State.closeClaims_of hclose c).1
    have htimer : (r.closeClaims c).timer = { r.judged.timer with frame := 0, silence := 0 } := (State.closeClaims_of hclose c).2.1
    have hstation : (r.closeClaims c).station = .listening := congrArg Membership.station hm
    refine ⟨hstation, by rw [htimer], by rw [htimer], congrArg Membership.observation hm, congrArg Membership.joiningSent hm,
      congrArg Membership.joiningFrames hm, fun k => ?_, ⟨r.judged.timer.frame, rs, hadopted, ?_⟩, ?_⟩
    · rw [State.peer, hm]
      exact getD_replicate_self 16 k _
    · rw [← hrs]
      exact (State.closeClaims_of hclose c).2.2.1
    · exact (State.closeClaims_of_not_member r c (by
        rw [show r.membershipClose.1.station = _ from hstation]; decide)).1
  · rw [State.checkJoining_of_waiting hj' (hnot hno) (by rw [hframes]; omega)] at hclose
    have hm : (r.closeClaims c).membership = _ := (State.closeClaims_of hclose c).1
    have hstation : (r.closeClaims c).station = .joining := (congrArg Membership.station hm).trans hj'
    refine ⟨hstation, (congrArg Membership.joiningSent hm).trans hsent, (congrArg Membership.joiningFrames hm).trans ?_, ?_⟩
    · exact congrArg (· + 1) hframes
    · exact (State.closeClaims_of_not_member r c (by
        rw [show r.membershipClose.1.station = _ from hstation]; decide)).1

end Sys2Proof.Proofs
end

section
/-! A REFCLK period with no command waiting (O2): what passes, what falls due, and in which order. -/

namespace Sys2Proof.Machine

/-! ### The period that passes (R1) -/

theorem State.clock_of_stopped {s : State} (c : Settings) (h : s.timer.mode = .stopped) : s.clock c = s := if_pos h

theorem State.clock_of_counting {s : State} {c : Settings} (h : s.timer.mode ≠ .stopped) (hp : s.timer.prescaler + 1 < c.divider) :
    s.clock c = { s with
      timer := { s.timer with prescaler := s.timer.prescaler + 1, lapsed := [] }
      engine := s.engine.elapse 1 } := (if_neg h).trans (if_pos hp)

theorem State.clock_of_boundary {s : State} {c : Settings} (h : s.timer.mode ≠ .stopped) (hp : c.divider ≤ s.timer.prescaler + 1) :
    s.clock c = s.elapse c 1 := (if_neg h).trans (if_neg (Nat.not_lt.mpr hp))

/-- What no REFCLK period changes. -/
theorem State.clock_keeps (s : State) (c : Settings) : s.engineKept (s.clock c) ∧ (s.clock c).timer.mode = s.timer.mode ∧
    (s.clock c).timer.frame = s.timer.frame ∧ (s.clock c).timer.emitted = s.timer.emitted ∧
    (s.clock c).timer.frmLow = s.timer.frmLow ∧ (s.clock c).timer.ownPull = s.timer.ownPull := by
  unfold State.clock
  split
  · exact ⟨⟨rfl, rfl⟩, rfl, rfl, rfl, rfl, rfl⟩
  · split
    · exact ⟨⟨rfl, rfl⟩, rfl, rfl, rfl, rfl, rfl⟩
    · exact ⟨⟨rfl, rfl⟩, rfl, rfl, rfl, rfl, rfl⟩

/-- What a tu boundary does to the timer (R2, R14, R17). -/
theorem FrameTimer.elapse_boundary {t : FrameTimer} (hm : t.mode ≠ .stopped) (len : Nat) (listening : Bool) :
    (t.elapse len listening 1).prescaler = 0 ∧
    (t.mode = .running → (t.elapse len listening 1).value = min (t.value + 1) len) ∧
    (t.mode ≠ .running → (t.elapse len listening 1).value = t.value) ∧
    (t.frmLow = true → t.mode ≠ .faulted → (t.elapse len listening 1).markLow = min (t.markLow + 1) 65) ∧
    (t.frmLow = false ∨ t.mode = .faulted → (t.elapse len listening 1).markLow = t.markLow) ∧
    (listening = true → (t.elapse len listening 1).silence = min (t.silence + 1) (2 * len)) ∧
    (listening = false → (t.elapse len listening 1).silence = t.silence) := by
  refine ⟨rfl, fun h => if_pos h, fun h => if_neg h, fun hl hf => if_pos ?_, fun h => if_neg ?_, fun h => if_pos ?_, fun h => if_neg ?_⟩
  · rw [hl, Bool.true_and]
    cases h : t.mode with
    | stopped => exact absurd h hm
    | faulted => exact absurd h hf
    | _ => rfl
  · rcases h with h | h
    · simp [h]
    · simp [h, TimerMode.monitors]
  · simp [h, hm]
  · simp [h]

/-! ### Leading parts of a list -/

theorem mem_takeWhile_iff {α : Type} {p : α → Bool} {l : List α} {a : α} :
    a ∈ l.takeWhile p ↔ ∃ j : Nat, l[j]? = some a ∧ ∀ (m : Nat) (b : α), m ≤ j → l[m]? = some b → p b = true := by
  induction l with
  | nil => simp
  | cons x l ih =>
    rw [List.takeWhile_cons]
    cases hx : p x with
    | false =>
      refine ⟨nofun, fun ⟨j, _, h⟩ => ?_⟩
      rw [h 0 x (Nat.zero_le j) rfl] at hx
      cases hx
    | true =>
      rw [if_pos rfl, List.mem_cons, ih]
      constructor
      · rintro (rfl | ⟨j, hj, h⟩)
        · refine ⟨0, rfl, fun m b hm hb => ?_⟩
          obtain rfl := Nat.le_zero.mp hm
          cases hb
          exact hx
        · refine ⟨j + 1, hj, fun m b hm hb => ?_⟩
          cases m with
          | zero => cases hb; exact hx
          | succ m => exact h m b (by omega) hb
      · rintro ⟨j, hj, h⟩
        cases j with
        | zero => cases hj; exact .inl rfl
        | succ j => exact .inr ⟨j, hj, fun m b hm hb => h (m + 1) b (by omega) hb⟩

/-- Where those that pass come before those that do not, the leading part is the whole of what passes. -/
theorem takeWhile_eq_filter {α : Type} {p : α → Bool} {l : List α} (h : l.Pairwise (fun a b => p b = true → p a = true)) :
    l.takeWhile p = l.filter p := by
  induction l with
  | nil => rfl
  | cons a l ih =>
    obtain ⟨ha, hl⟩ := List.pairwise_cons.mp h
    rw [List.takeWhile_cons, List.filter_cons, ih hl]
    split
    · rfl
    · next hp => exact (List.filter_eq_nil_iff.mpr fun b hb hpb => hp (ha b hb hpb)).symm

theorem getElem?_of_takeWhile {α : Type} {p : α → Bool} {l : List α} {j : Nat} {a : α} (h : (l.takeWhile p)[j]? = some a) :
    l[j]? = some a := by
  obtain ⟨rest, hrest⟩ := List.takeWhile_prefix p (l := l)
  obtain ⟨hj, -⟩ := List.getElem?_eq_some_iff.mp h
  rw [← hrest, List.getElem?_append_left hj]
  exact h

/-- A member of the back part alone stands in it. -/
theorem getElem?_append_of_not_mem {α : Type} {l l' : List α} {i : Nat} {a : α} (hn : a ∉ l) (h : (l ++ l')[i]? = some a) :
    l.length ≤ i ∧ l'[i - l.length]? = some a := by
  rcases Nat.lt_or_ge i l.length with hi | hi
  · rw [List.getElem?_append_left hi] at h
    exact absurd (List.mem_of_getElem? h) hn
  · rw [List.getElem?_append_right hi] at h
    exact ⟨hi, h⟩

/-! ### What falls due -/

theorem State.mem_dueLoad (s : State) (i : Instr) : i ∈ s.dueLoad ↔
    (i = .loadCompletionFailure ∧ (s.loader.failing ≠ none ∨
      (s.loader.state = .checking ∧ checkingFailure s.loader.granules s.sid ≠ none))) ∨
    (i = .loadCompletionSuccess false false ∧ s.loader.failing = none ∧ s.loader.state = .checking ∧
      checkingFailure s.loader.granules s.sid = none) := by
  unfold State.dueLoad State.loadSucceeds State.loadFailure
  cases hf : s.loader.failing with
  | some why => simp
  | none =>
    by_cases hs : s.loader.state = .checking
    · cases hcheck : checkingFailure s.loader.granules s.sid with
      | some why => simp [hs]
      | none => simp [hs]
    · simp [hs]

theorem State.dueBusFault_eq_nil (s : State) : s.dueBusFault = [] ↔ ¬ s.busFaultDue := by
  unfold State.dueBusFault
  split
  · next h => exact ⟨nofun, fun hn => absurd h hn⟩
  · next h => exact ⟨fun _ => h, fun _ => rfl⟩

theorem State.due_of_busFault {s : State} (h : s.busFaultDue) (c : Settings) : s.due c = [.busFault] :=
  (if_pos fun h' => s.dueBusFault_eq_nil.mp h' h).trans (if_pos h)

theorem State.mem_dueSelfStart (s : State) (c : Settings) (i : Instr) : i ∈ s.dueSelfStart c ↔ i = .selfStart ∧
    s.station = .listening ∧ s.timer.mode ≠ .stopped ∧ 2 * c.frameLength ≤ s.timer.silence ∧ s.timer.frmLow = false := by
  unfold State.dueSelfStart State.selfStartDue
  split
  · next h =>
    simp only [Bool.and_eq_true, beq_iff_eq, bne_iff_ne, decide_eq_true_eq] at h
    obtain ⟨⟨⟨h1, h2⟩, h3⟩, h4⟩ := h
    simp [h1, h2, h3, h4]
  · next h =>
    simp only [Bool.and_eq_true, beq_iff_eq, bne_iff_ne, decide_eq_true_eq] at h
    exact ⟨nofun, fun ⟨_, h1, h2, h3, h4⟩ => absurd ⟨⟨⟨h1, h2⟩, h3⟩, h4⟩ h⟩

theorem State.mem_duePullEnd (s : State) (i : Instr) : i ∈ s.duePullEnd ↔
    (i = .frmPullEnd ∨ i = .frmRisingEdge) ∧ s.timer.ownPull = true ∧ 8 ≤ s.timer.value := by
  unfold State.duePullEnd
  split
  · next h => simp [h]
  · next h => exact ⟨nofun, fun h' => absurd h'.2 h⟩

/-- The sample point of a bit in whole REFCLK periods (R21). -/
theorem State.sampleReached_iff (s : State) (c : Settings) (kind : WindowKind) (i : Nat) : s.sampleReached c kind i = true ↔
    c.divider * (c.windowStart kind s.me + i * c.bitTu) + c.bitTu * c.divider / 2 ≤ c.divider * s.timer.value + s.timer.prescaler := by
  have hsplit : c.divider * (c.sampleClocks / c.divider) + c.sampleClocks % c.divider = c.sampleClocks := Nat.div_add_mod _ _
  have hclocks : c.sampleClocks = c.bitTu * c.divider / 2 := rfl
  rw [State.sampleReached, decide_eq_true_eq, State.sampleTu, Nat.mul_add c.divider (_ + _), Nat.add_assoc, hsplit, hclocks]

theorem State.mem_dueTransmitter (s : State) (c : Settings) (i : Instr) : i ∈ s.dueTransmitter c ↔
    (i = .leadInEnd ∧ ∃ kind st frame heard, s.bus.tx = .leadIn kind st frame heard ∧
      c.windowStart kind s.me + 2 * c.bitTu ≤ s.timer.value) ∨
    (i = .messageSent ∧ ∃ kind bytes, s.bus.tx = .sending kind bytes ∧
      c.divider * (c.windowStart kind s.me + (1 + 10 * bytes.length) * c.bitTu) + c.bitTu * c.divider / 2 ≤
        c.divider * s.timer.value + s.timer.prescaler) := by
  unfold State.dueTransmitter
  cases htx : s.bus.tx with
  | leadIn kind st frame heard =>
    dsimp only
    split
    · next h => simp [h]
    · next h => simp [h]
  | sending kind bytes =>
    simp only [State.sampleReached_iff]
    split
    · next h => simp [h]
    · next h => simp [h]
  | _ => simp

theorem State.mem_dueSettle (s : State) (c : Settings) (i : Instr) : i ∈ s.dueSettle c ↔
    i = .windowSettle { startLow := false, toggles := [] } ∧ ∃ kind k, s.bus.window = some (kind, k) ∧
      c.settleAt kind k ≤ s.timer.value := by
  unfold State.dueSettle
  cases hw : s.bus.window with
  | none => simp
  | some p =>
    obtain ⟨kind, k⟩ := p
    dsimp only
    split
    · next h => simp [h, lineReleased]
    · next h => simp [h]

theorem State.mem_dueAllocation (s : State) (c : Settings) (i : Instr) : i ∈ s.dueAllocation c ↔
    i = .allocationComplete ∧ s.alloc.status = .building ∧
      c.claimClose + (Config.allocationDelay s.draws).val ≤ s.timer.value := by
  unfold State.dueAllocation
  split
  · next h => simp [h]
  · next h => exact ⟨nofun, fun h' => absurd h'.2 h⟩

theorem State.mem_duePatternEdges (s : State) (c : Settings) (i : Instr) : i ∈ s.duePatternEdges c ↔
    ∃ r j e, s.engine.mode = .running r ∧ i = .patternEdge e.offset e.fine ∧ r.next ≤ j ∧
      (c.patternEdges r.pattern)[j]? = some e ∧
      ∀ m e', r.next ≤ m → m ≤ j → (c.patternEdges r.pattern)[m]? = some e' →
        10 * c.divider * (r.origin + e'.offset) + c.divider * e'.fine ≤
          10 * c.divider * s.timer.value + 10 * s.timer.prescaler := by
  unfold State.duePatternEdges
  cases hm : s.engine.mode with
  | running r =>
    simp only [List.mem_map, mem_takeWhile_iff, List.getElem?_drop, State.edgeReached, decide_eq_true_eq]
    constructor
    · rintro ⟨e, ⟨j, hj, h⟩, rfl⟩
      refine ⟨r, r.next + j, e, rfl, rfl, Nat.le_add_right _ _, hj, fun m e' hm hmj he' => h (m - r.next) e' (by omega) ?_⟩
      rwa [Nat.add_sub_cancel' hm]
    · rintro ⟨r', j, e, hr, rfl, hj, he, h⟩
      cases hr
      refine ⟨e, ⟨j - r.next, by rwa [Nat.add_sub_cancel' hj], fun m e' hm he' => h _ e' (by omega) (by omega) he'⟩, rfl⟩
  | _ => exact ⟨nofun, fun ⟨_, _, _, h, _⟩ => by cases h⟩

/-- The phase events due are those not yet emitted whose value has come (R4, R5). -/
theorem State.duePhaseEvents_eq (s : State) (c : Settings) : s.duePhaseEvents c =
    ((c.schedule.drop s.timer.emitted).filter (fun e => decide (e.1 ≤ s.timer.value))).map Prod.snd := by
  have hsorted : c.schedule.Pairwise (fun a b => a.1 ≤ b.1) := List.pairwise_map.mp c.schedule_pairwise
  refine congrArg (List.map Prod.snd) (takeWhile_eq_filter ((hsorted.sublist (List.drop_sublist _ _)).imp fun hab hb => ?_))
  simp only [decide_eq_true_eq] at hb ⊢
  omega

theorem State.mem_duePhaseEvents (s : State) (c : Settings) (i : Instr) : i ∈ s.duePhaseEvents c ↔
    ∃ p v, c.schedule[p]? = some (v, i) ∧ s.timer.emitted ≤ p ∧ v ≤ s.timer.value := by
  simp only [State.duePhaseEvents_eq, List.mem_map, List.mem_filter, decide_eq_true_eq,
    List.mem_iff_getElem? (l := c.schedule.drop s.timer.emitted), List.getElem?_drop]
  constructor
  · rintro ⟨⟨v, i⟩, ⟨⟨j, hj⟩, hv⟩, rfl⟩
    exact ⟨_, v, hj, Nat.le_add_right _ _, hv⟩
  · rintro ⟨p, v, hp, he, hv⟩
    exact ⟨(v, i), ⟨⟨p - s.timer.emitted, by rwa [Nat.add_sub_cancel' he]⟩, hv⟩, rfl⟩

/-! ### The order -/

/-- The commands of the table of R4. -/
def isPhaseEvent : Instr → Bool
  | .claimWindowStart _ => true
  | .claimPhaseClose => true
  | .digestWindowStart _ => true
  | .digestPhaseClose => true
  | .slotStart _ => true
  | .slotEnd _ => true
  | .expiry => true
  | _ => false

theorem Settings.schedule_isPhaseEvent {c : Settings} {i : Instr} (h : i ∈ c.schedule.map Prod.snd) : isPhaseEvent i = true := by
  obtain ⟨⟨v, i⟩, hmem, rfl⟩ := List.mem_map.mp h
  obtain ⟨p, hp⟩ := List.mem_iff_getElem?.mp hmem
  rcases c.schedule_cases hp with ⟨k, -, -, -, rfl⟩ | ⟨-, -, rfl⟩ | ⟨k, -, -, -, rfl⟩ | ⟨-, -, rfl⟩ | ⟨k, -, -, -, rfl⟩ |
    ⟨k, -, -, -, rfl⟩ | ⟨-, -, rfl⟩ <;> rfl

/-- Everything due but a bus fault and the phase events. -/
def State.dueOthers (s : State) (c : Settings) : List Instr :=
  s.dueSelfStart c ++
    if s.timing then s.duePullEnd ++ s.dueTransmitter c ++ s.dueSettle c ++ s.dueAllocation c ++ s.duePatternEdges c else []

/-- In RUNNING the phase events stand behind everything else that is due. -/
theorem State.due_of_no_fault {s : State} (h : ¬ s.busFaultDue) (c : Settings) :
    s.due c = s.dueOthers c ++ if s.timing then s.duePhaseEvents c else [] := by
  rw [State.due, if_neg (not_not_intro (s.dueBusFault_eq_nil.mpr h)), State.dueOthers, State.dueInFrame]
  split
  · simp only [List.append_assoc]
  · simp only [List.append_nil]

theorem State.mem_dueOthers (s : State) (c : Settings) (i : Instr) : i ∈ s.dueOthers c ↔ i ∈ s.dueSelfStart c ∨
    (s.timer.mode = .running ∧ (i ∈ s.duePullEnd ∨ i ∈ s.dueTransmitter c ∨ i ∈ s.dueSettle c ∨ i ∈ s.dueAllocation c ∨
      i ∈ s.duePatternEdges c)) := by
  rw [State.dueOthers, List.mem_append, State.timing]
  by_cases hm : s.timer.mode = .running
  · simp [hm]
  · simp [hm]

theorem State.dueOthers_not_phase {s : State} {c : Settings} {i : Instr} (h : i ∈ s.dueOthers c) : isPhaseEvent i = false := by
  simp only [State.mem_dueOthers, State.mem_dueSelfStart, State.mem_duePullEnd, State.mem_dueTransmitter, State.mem_dueSettle,
    State.mem_dueAllocation, State.mem_duePatternEdges] at h
  rcases h with ⟨rfl, -⟩ | ⟨-, ⟨rfl | rfl, -⟩ | (⟨rfl, -⟩ | ⟨rfl, -⟩) | ⟨rfl, -⟩ | ⟨rfl, -⟩ | ⟨r, j, e, -, rfl, -⟩⟩ <;> rfl

/-- A phase event that is due stands behind the others, at its distance from the first not yet emitted. -/
theorem State.due_place {s : State} {c : Settings} (h : ¬ s.busFaultDue) {a : Nat} {i : Instr} (hi : isPhaseEvent i = true)
    (ha : (s.due c)[a]? = some i) : ∃ j v, a = (s.dueOthers c).length + j ∧ c.schedule[s.timer.emitted + j]? = some (v, i) := by
  rw [State.due_of_no_fault h] at ha
  obtain ⟨hle, hj⟩ := getElem?_append_of_not_mem (fun hm => by rw [State.dueOthers_not_phase hm] at hi; cases hi) ha
  split at hj
  · rw [State.duePhaseEvents, List.getElem?_map, Option.map_eq_some_iff] at hj
    obtain ⟨⟨v, i⟩, hp, rfl⟩ := hj
    have hp := getElem?_of_takeWhile hp
    rw [List.getElem?_drop] at hp
    exact ⟨_, v, (Nat.add_sub_cancel' hle).symm, hp⟩
  · cases hj

theorem Settings.place_of_slotEnd {c : Settings} {p v k : Nat} (h : c.schedule[p]? = some (v, .slotEnd k)) : p = c.placeSlotEnd k := by
  rcases c.schedule_cases h with ⟨_, -, -, -, e⟩ | ⟨-, -, e⟩ | ⟨_, -, -, -, e⟩ | ⟨-, -, e⟩ | ⟨_, -, -, -, e⟩ |
    ⟨k', -, hp, -, e⟩ | ⟨-, -, e⟩ <;> cases e
  exact hp

theorem Settings.place_of_slotStart {c : Settings} {p v k : Nat} (h : c.schedule[p]? = some (v, .slotStart k)) :
    p = c.placeSlotStart k := by
  rcases c.schedule_cases h with ⟨_, -, -, -, e⟩ | ⟨-, -, e⟩ | ⟨_, -, -, -, e⟩ | ⟨-, -, e⟩ | ⟨k', -, hp, -, e⟩ |
    ⟨_, -, -, -, e⟩ | ⟨-, -, e⟩ <;> cases e
  exact hp

/-- The phase events of the queue, in their order, are those due. -/
theorem State.due_filter_phases {s : State} {c : Settings} (h : ¬ s.busFaultDue) (hm : s.timer.mode = .running) :
    (s.due c).filter (fun i => decide (i ∈ c.schedule.map Prod.snd)) = s.duePhaseEvents c := by
  have hothers : (s.dueOthers c).filter (fun i => decide (i ∈ c.schedule.map Prod.snd)) = [] := by
    refine List.filter_eq_nil_iff.mpr fun i hi hs => ?_
    have := Settings.schedule_isPhaseEvent (of_decide_eq_true hs)
    rw [State.dueOthers_not_phase hi] at this
    cases this
  have hphases : (s.duePhaseEvents c).filter (fun i => decide (i ∈ c.schedule.map Prod.snd)) = s.duePhaseEvents c := by
    refine List.filter_eq_self.mpr fun i hi => decide_eq_true ?_
    obtain ⟨p, v, hp, -⟩ := (s.mem_duePhaseEvents c i).mp hi
    exact List.mem_map.mpr ⟨(v, i), List.mem_of_getElem? hp, rfl⟩
  rw [State.due_of_no_fault h, if_pos (show s.timing = true from decide_eq_true hm), List.filter_append, hothers, hphases, List.nil_append]

end Sys2Proof.Machine

namespace Sys2Proof.Proofs

open Sys2Proof.Machine

/-- Settles O2: the period, and what falls due in it. -/
theorem idleStepIsOneRefclk : Obligations.IdleStepIsOneRefclk := by
  unfold Obligations.IdleStepIsOneRefclk
  refine ⟨fun s hp hc => ?_, fun s c hp hc _ => ?_⟩
  · refine ⟨{ s with loader := s.loader.clock, pending := s.pending ++ s.dueLoad }, ?_, ?_, fun hb => ?_, fun hb h0 => ?_,
      fun hb h0 => ?_, fun i => ?_⟩
    · simp only [step, hp, State.idle, hc]
    · intro b hb
      cases b <;> simp_all [Block.same]
    · simp only [ImageLoader.clock, hb, Option.isNone_none, if_true]
    · simp only [ImageLoader.clock, Option.isNone_iff_eq_none, hb, if_false, h0, if_true]
    · simp only [ImageLoader.clock, Option.isNone_iff_eq_none, hb, if_false, h0]
    · rw [hp, List.nil_append]
      exact s.mem_dueLoad i
  · have hpend : (s.clock c).pending = [] := (s.clock_frame c .pending (by decide)).trans hp
    obtain ⟨hkept, hmode, hframe, hemitted, hlow, hpull⟩ := s.clock_keeps c
    have hstep : step s = .next { s.clock c with pending := (s.clock c).pending ++ (s.clock c).due c } := by
      simp only [step, hp, State.idle, hc]
    have hdue : ({ s.clock c with pending := (s.clock c).pending ++ (s.clock c).due c } : State).pending =
        ({ s.clock c with pending := (s.clock c).pending ++ (s.clock c).due c } : State).due c := by
      rw [hpend]
      rfl
    have hall : s.onlyChanges { s.clock c with pending := (s.clock c).pending ++ (s.clock c).due c } [.timer, .engine, .pending] :=
      State.onlyChanges_comp (s.clock_frame c) (State.setPending_frame _ _) (by decide)
    have htimer : ({ s.clock c with pending := (s.clock c).pending ++ (s.clock c).due c } : State).timer = (s.clock c).timer := rfl
    have hkept' : s.engineKept { s.clock c with pending := (s.clock c).pending ++ (s.clock c).due c } := hkept
    generalize ({ s.clock c with pending := (s.clock c).pending ++ (s.clock c).due c } : State) = t at *
    rw [← htimer] at hmode hframe hemitted hlow hpull
    refine ⟨t, hstep, hkept', hall, hmode, hframe, hemitted, hlow, hpull, fun h => ?_, fun h hd => ?_, fun h hd => ?_, fun h => ?_,
      fun h i => ?_, fun h => ⟨fun hm => ?_, fun k a b ha hb => ?_⟩⟩
    · exact htimer.trans (congrArg State.timer (State.clock_of_stopped c h))
    · exact htimer.trans (congrArg State.timer (State.clock_of_counting h hd))
    · have ht : (s.clock c).timer = s.timer.elapse c.frameLength (s.station == .listening) 1 :=
        congrArg State.timer (State.clock_of_boundary h hd)
      obtain ⟨h1, h2, h3, h4, h5, h6, h7⟩ := FrameTimer.elapse_boundary h c.frameLength (s.station == .listening)
      rw [htimer, ht]
      exact ⟨h1, h2, h3, h4, h5, fun hl => h6 (by rw [hl]; rfl), fun hl => h7 (by simpa using hl)⟩
    · rw [hdue]
      exact State.due_of_busFault h c
    · rw [hdue, State.due_of_no_fault h]
      by_cases hm : t.timer.mode = .running
      · simp only [State.timing, hm, beq_self_eq_true, if_true, List.mem_append, State.mem_dueOthers, State.mem_dueSelfStart,
          State.mem_duePullEnd, State.mem_dueTransmitter, State.mem_dueSettle, State.mem_dueAllocation, State.mem_duePatternEdges,
          State.mem_duePhaseEvents, true_and, or_assoc]
      · simp only [State.timing, hm, beq_iff_eq, if_false, List.append_nil, State.mem_dueOthers, State.mem_dueSelfStart, false_and,
          or_false]
    · rw [hdue]
      exact (State.due_filter_phases h hm).trans (State.duePhaseEvents_eq _ c)
    · rw [hdue] at ha hb
      obtain ⟨j, v, rfl, hj⟩ := State.due_place h rfl ha
      obtain ⟨j', v', rfl, hj'⟩ := State.due_place h rfl hb
      have h1 := Settings.place_of_slotEnd hj
      have h2 := Settings.place_of_slotStart hj'
      simp only [Settings.placeSlotEnd, Settings.placeSlotStart] at h1 h2
      omega

end Sys2Proof.Proofs
end

section
/-! The message formats (O32): the fields of the bytes are the fields of the message. -/

namespace Sys2Proof.Machine

/-! ### Fields of a byte -/

theorem joinBytes_hiByte_loByte (h : Half) : joinBytes (hiByte h) (loByte h) = h := by
  unfold joinBytes hiByte loByte
  ext i hi
  rw [BitVec.getElem_append]
  split
  · simp [BitVec.getLsbD_eq_getElem hi]
  · next hge => simp [Nat.add_sub_cancel' (Nat.le_of_not_lt hge), BitVec.getLsbD_eq_getElem hi]

theorem byteOf_toNat {n : Nat} (h : n < 256) : (byteOf n).toNat = n := by
  rw [byteOf, BitVec.toNat_ofNat]
  exact Nat.mod_eq_of_lt h

theorem byteField_eq (b : Byte) (lo width : Nat) : byteField b lo width = b.toNat / 2 ^ lo % 2 ^ width := by
  rw [byteField, Nat.shiftRight_eq_div_pow]

theorem ownerField_eq (b : Byte) : byteField b 4 4 = b.toNat / 16 := by
  have hb : b.toNat < 256 := b.isLt
  rw [byteField_eq]
  omega

theorem countField_eq (b : Byte) : byteField b 0 3 = b.toNat % 8 := by
  rw [byteField_eq, Nat.pow_zero, Nat.div_one]
  rfl

theorem byteOf_getLsbD {n : Nat} (h : n < 256) (i : Nat) : (byteOf n).getLsbD i = decide (n / 2 ^ i % 2 = 1) := by
  rw [BitVec.getLsbD, byteOf_toNat h, Nat.testBit_eq_decide_div_mod_eq]

/-! ### The check (R39) -/

theorem byteAt_append_right (l l' : List Byte) (i : Nat) : byteAt (l ++ l') (l.length + i) = byteAt l' i := by
  rw [byteAt, byteAt, List.getD_append_right _ _ _ _ (Nat.le_add_right _ _), Nat.add_sub_cancel_left]

theorem halfAt_append_halfBytes (l : List Byte) (h : Half) : halfAt (l ++ halfBytes h) l.length = h := by
  rw [halfAt, byteAt_append_right l (halfBytes h) 1, ← Nat.add_zero l.length, byteAt_append_right l (halfBytes h) 0]
  exact joinBytes_hiByte_loByte h

theorem withCheck_length (bytes : List Byte) : (withCheck bytes).length = bytes.length + 2 := List.length_append

theorem checkPasses_withCheck (bytes : List Byte) : checkPasses (withCheck bytes) = true := by
  rw [checkPasses, withCheck_length, Nat.add_sub_cancel, withCheck, halfAt_append_halfBytes, List.take_left']
  · exact beq_self_eq_true _
  · rfl

/-! ### Claims (R37) -/

theorem Claim.inRange_iff (x : Claim) : x.inRange = true ↔
    x.cls < 4 ∧ x.priority < 4 ∧ 1 ≤ x.span ∧ x.span ≤ 2 ∧ 1 ≤ x.count ∧ x.count ≤ 4 := by
  simp only [Claim.inRange, Bool.and_eq_true, decide_eq_true_eq, and_assoc]

theorem Claim.decode_encode {x : Claim} (h : x.inRange = true) : Claim.decode x.encode = x := by
  obtain ⟨hcls, hpri, hs1, hs2, hc1, hc2⟩ := x.inRange_iff.mp h
  have hnat : x.encode.toNat = x.cls * 64 + x.priority * 16 + (x.span - 1) * 8 + (x.count - 1) * 2 := byteOf_toNat (by omega)
  obtain ⟨cls, priority, span, count⟩ := x
  simp only at hcls hpri hs1 hs2 hc1 hc2 hnat
  simp only [Claim.decode, byteField_eq, hnat, Claim.mk.injEq]
  refine ⟨?_, ?_, ?_, ?_⟩ <;> omega

theorem Claim.encode_decode {b : Byte} (h : b.getLsbD 0 = false) : (Claim.decode b).encode = b := by
  have hlt : b.toNat < 256 := b.isLt
  have heven : b.toNat % 2 = 0 := by
    rw [BitVec.getLsbD, Nat.testBit_zero, decide_eq_false_iff_not] at h
    omega
  refine BitVec.eq_of_toNat_eq ?_
  simp only [Claim.encode, Claim.decode, byteField_eq]
  rw [byteOf_toNat (by omega)]
  omega

/-! ### Announcements (R36) -/

/-- The bytes of an announcement before its claims. -/
def Announcement.head (a : Announcement) : List Byte :=
  [0x5A, byteOf (a.station * 16 + a.group * 2), a.frame, a.flagsByte, hiByte a.fingerprint, loByte a.fingerprint,
    hiByte a.heardMap, loByte a.heardMap]

theorem Announcement.encode_eq (a : Announcement) : a.encode =
    a.head ++ (a.claims.map Claim.encode ++ halfBytes (crc16 (a.head ++ a.claims.map Claim.encode))) :=
  List.append_assoc a.head (a.claims.map Claim.encode) _

theorem Announcement.encode_byteAt (a : Announcement) {i : Nat} (h : i < 8) : byteAt a.encode i = byteAt a.head i := by
  rw [a.encode_eq, byteAt_append_left a.head _ i h]

theorem Announcement.encode_length (a : Announcement) : a.encode.length = 10 + a.claims.length := by
  rw [a.encode_eq, List.length_append, List.length_append, List.length_map]
  show 8 + (a.claims.length + 2) = _
  omega

theorem Announcement.inRange_iff (a : Announcement) : a.inRange = true ↔
    a.station < 16 ∧ a.group < 8 ∧ a.claims.length ≤ 4 ∧ ∀ x ∈ a.claims, x.inRange = true := by
  simp only [Announcement.inRange, Bool.and_eq_true, decide_eq_true_eq, List.all_eq_true, and_assoc]

/-- The claim count in bits 2–0 of byte 3. -/
theorem Announcement.encode_count {a : Announcement} (h : a.claims.length ≤ 4) :
    (byteAt a.encode 3).toNat % 8 = a.claims.length := by
  have hj := a.joining.toNat_le
  have hl := a.leaving.toNat_le
  have hh := a.held.toNat_le
  rw [a.encode_byteAt (by decide)]
  show a.flagsByte.toNat % 8 = _
  rw [Announcement.flagsByte, byteOf_toNat (by omega)]
  omega

/-- The three flags in bits 7, 6 and 5 of it. -/
theorem Announcement.encode_flags {a : Announcement} (h : a.claims.length ≤ 4) :
    (byteAt a.encode 3).getLsbD 7 = a.joining ∧ (byteAt a.encode 3).getLsbD 6 = a.leaving ∧
    (byteAt a.encode 3).getLsbD 5 = a.held := by
  have hj := a.joining.toNat_le
  have hl := a.leaving.toNat_le
  have hh := a.held.toNat_le
  have hbit (b : Bool) {n : Nat} (hn : n = b.toNat) : decide (n = 1) = b := by
    rw [hn]
    cases b <;> rfl
  rw [a.encode_byteAt (by decide)]
  show a.flagsByte.getLsbD 7 = _ ∧ a.flagsByte.getLsbD 6 = _ ∧ a.flagsByte.getLsbD 5 = _
  rw [Announcement.flagsByte, byteOf_getLsbD (by omega), byteOf_getLsbD (by omega), byteOf_getLsbD (by omega)]
  refine ⟨hbit _ ?_, hbit _ ?_, hbit _ ?_⟩ <;> omega

/-- The station in bits 7–4 of byte 1, the group in bits 3–1. -/
theorem Announcement.encode_owner {a : Announcement} (hs : a.station < 16) (hg : a.group < 8) :
    (byteAt a.encode 1).toNat = a.station * 16 + a.group * 2 := by
  rw [a.encode_byteAt (by decide)]
  exact byteOf_toNat (by omega)

theorem Announcement.decode_encode {a : Announcement} (h : a.inRange = true) : Announcement.decode a.encode = a := by
  obtain ⟨hs, hg, hlen, hclaims⟩ := a.inRange_iff.mp h
  obtain ⟨hj, hl, hh⟩ := Announcement.encode_flags hlen
  have hcount : byteField (byteAt a.encode 3) 0 3 = a.claims.length := by
    rw [countField_eq]
    exact Announcement.encode_count hlen
  have howner := Announcement.encode_owner hs hg
  have hbody : ((a.encode.drop 8).take a.claims.length).map Claim.decode = a.claims := by
    rw [a.encode_eq, List.drop_left' (show a.head.length = 8 from rfl), List.take_left' (List.length_map _), List.map_map]
    exact (List.map_congr_left fun x hx => Claim.decode_encode (hclaims x hx)).trans (List.map_id _)
  have hstation : byteField (byteAt a.encode 1) 4 4 = a.station := by rw [byteField_eq, howner]; omega
  have hgroup : byteField (byteAt a.encode 1) 1 3 = a.group := by rw [byteField_eq, howner]; omega
  have hframe : byteAt a.encode 2 = a.frame := a.encode_byteAt (by decide)
  have hfinger : halfAt a.encode 4 = a.fingerprint := by
    rw [halfAt, a.encode_byteAt (by decide), a.encode_byteAt (by decide)]
    exact joinBytes_hiByte_loByte _
  have hmap : halfAt a.encode 6 = a.heardMap := by
    rw [halfAt, a.encode_byteAt (by decide), a.encode_byteAt (by decide)]
    exact joinBytes_hiByte_loByte _
  simp only [Announcement.decode, hcount, hj, hl, hh, hbody, hstation, hgroup, hframe, hfinger, hmap]

/-! ### Digest messages (R38) -/

theorem DigestMessage.decode_encode {d : DigestMessage} (h : d.station < 16) : DigestMessage.decode d.encode = d := by
  have hstation : byteField (byteOf (d.station * 16)) 4 4 = d.station := by
    rw [byteField_eq, byteOf_toNat (by omega)]
    omega
  have hdigest : halfAt d.encode 3 = d.digest := joinBytes_hiByte_loByte d.digest
  unfold DigestMessage.decode
  rw [hdigest, show byteAt d.encode 1 = byteOf (d.station * 16) from rfl, hstation]
  rfl

end Sys2Proof.Machine

namespace Sys2Proof.Proofs

open Sys2Proof.Machine

/-- Settles O32. -/
theorem messagesRoundTrip : Obligations.MessagesRoundTrip := by
  unfold Obligations.MessagesRoundTrip
  exact ⟨fun a h => ⟨Announcement.decode_encode h, checkPasses_withCheck _, a.encode_length, rfl⟩,
    fun d h => ⟨DigestMessage.decode_encode h, checkPasses_withCheck _, rfl, rfl⟩,
    fun b h => ⟨Claim.decode_inRange b, Claim.encode_decode h⟩⟩

end Sys2Proof.Proofs
end

section
/-! The line of a message and what the receiver makes of it (O31): levels, falling edges, bytes. -/

namespace Sys2Proof.Machine

/-! ### Levels (R22) -/

/-- The level of a run of bits at time `t`: `high` before it, then each bit for `bd` REFCLK periods, the last one for good. -/
def lineLevel (bd : Nat) : Bool → Nat → List Bool → Nat → Bool
  | high, _, [], _ => high
  | high, start, b :: bs, t => if t < start then high else lineLevel bd b (start + bd) bs t

theorem le_of_mem_togglesOf {bd : Nat} {high : Bool} {start : Nat} {bits : List Bool} :
    ∀ x ∈ togglesOf bd high start bits, start ≤ x := by
  induction bits generalizing high start with
  | nil => nofun
  | cons b bs ih =>
    unfold togglesOf
    split
    · exact fun x hx => Nat.le_trans (Nat.le_add_right _ _) (ih x hx)
    · exact List.forall_mem_cons.mpr ⟨Nat.le_refl _, fun x hx => Nat.le_trans (Nat.le_add_right _ _) (ih x hx)⟩

/-- An odd number of level changes has come exactly where the level is the other one. -/
theorem togglesOf_parity (bd : Nat) (high : Bool) (start : Nat) (bits : List Bool) (t : Nat) :
    decide (((togglesOf bd high start bits).filter (fun x => decide (x ≤ t))).length % 2 = 1) =
      (high != lineLevel bd high start bits t) := by
  induction bits generalizing high start with
  | nil => cases high <;> rfl
  | cons b bs ih =>
    by_cases ht : t < start
    · have hnil : (togglesOf bd high start (b :: bs)).filter (fun x => decide (x ≤ t)) = [] :=
        List.filter_eq_nil_iff.mpr fun x hx => by have := le_of_mem_togglesOf x hx; simp; omega
      rw [hnil, lineLevel, if_pos ht, bne_self_eq_false]
      rfl
    · rw [lineLevel, if_neg ht, togglesOf]
      split
      · next hb => rw [ih, hb]
      · next hb =>
        have hother : high = !b := by cases b <;> cases high <;> simp_all
        rw [List.filter_cons_of_pos (by simpa using Nat.le_of_not_lt ht), List.length_cons, hother]
        have hflip (n : Nat) : decide ((n + 1) % 2 = 1) = !decide (n % 2 = 1) := by
          rw [← decide_not, decide_eq_decide]
          omega
        rw [hflip, ih]
        cases b <;> cases lineLevel bd _ (start + bd) bs t <;> rfl

theorem lineLevel_of_lt {bd : Nat} {high : Bool} {start : Nat} {t : Nat} (h : t < start) (bits : List Bool) :
    lineLevel bd high start bits t = high := by
  cases bits with
  | nil => rfl
  | cons b bs => exact if_pos h

theorem lineLevel_of_bit {bd : Nat} {high : Bool} {start i t : Nat} {bits : List Bool} {b : Bool} (hb : bits[i]? = some b)
    (h1 : start + i * bd ≤ t) (h2 : t < start + (i + 1) * bd) : lineLevel bd high start bits t = b := by
  induction bits generalizing high start i with
  | nil => cases hb
  | cons b' bs ih =>
    rw [lineLevel, if_neg (by have := Nat.zero_le (i * bd); omega)]
    cases i with
    | zero =>
      cases hb
      exact lineLevel_of_lt (by simpa using h2) bs
    | succ i => exact ih hb (by rw [Nat.add_mul] at h1; omega) (by rw [Nat.add_mul] at h2; omega)

theorem lineLevel_of_ge {bd : Nat} {high : Bool} {start t : Nat} {bits : List Bool} (h : start + bits.length * bd ≤ t) :
    lineLevel bd high start bits t = bits.getLast?.getD high := by
  induction bits generalizing high start with
  | nil => rfl
  | cons b bs ih =>
    rw [List.length_cons, Nat.add_mul] at h
    rw [lineLevel, if_neg (by have := Nat.zero_le (bs.length * bd); omega), ih (by omega), List.getLast?_cons]
    rfl

/-! ### The bits of a message (R22) -/

theorem byteBits_length (b : Byte) : (byteBits b).length = 10 := rfl

theorem messageBits_cons (b : Byte) (bytes : List Byte) : messageBits (b :: bytes) = byteBits b ++ messageBits bytes := rfl

theorem messageBits_append (l l' : List Byte) : messageBits (l ++ l') = messageBits l ++ messageBits l' := List.flatMap_append

theorem messageBits_bit {bytes : List Byte} {m : Nat} {b : Byte} (hb : bytes[m]? = some b) {i : Nat} (hi : i < 10) :
    (messageBits bytes)[10 * m + i]? = (byteBits b)[i]? := by
  induction bytes generalizing m with
  | nil => cases hb
  | cons b' bytes ih =>
    rw [messageBits_cons]
    cases m with
    | zero =>
      cases hb
      rw [Nat.mul_zero, Nat.zero_add, List.getElem?_append_left hi]
    | succ m =>
      rw [List.getElem?_append_right (by rw [byteBits_length]; omega), ← ih hb, byteBits_length]
      exact congrArg (fun n => (messageBits bytes)[n]?) (by omega)

theorem byteBits_data (b : Byte) {i : Nat} (hi : i < 8) : (byteBits b)[1 + i]? = some (b.getLsbD i) := by
  rw [byteBits, Nat.add_comm, List.getElem?_cons_succ, List.getElem?_append_left (by simpa using hi)]
  simp [hi]

/-- After the last stop bit, and before any bit, DAT is released. -/
theorem messageBits_getLast (bytes : List Byte) : (messageBits bytes).getLast?.getD true = true := by
  induction bytes with
  | nil => rfl
  | cons b bytes ih =>
    rw [messageBits_cons, List.getLast?_append]
    cases h : (messageBits bytes).getLast? with
    | none => rfl
    | some x => rw [h] at ih; exact ih

/-- The line of a message shows in each REFCLK period the level that the transmitter drives. -/
theorem lowAt_lineOfBytes {bd : Nat} (hbd : 0 < bd) (bytes : List Byte) (t : Nat) :
    lowAt (lineOfBytes bd bytes) t = !drivenHigh (some bytes) (t / bd) := by
  have hlevel : lineLevel bd true (2 * bd) (messageBits bytes) t = drivenHigh (some bytes) (t / bd) := by
    have hle : t / bd * bd ≤ t := Nat.div_mul_le_self t bd
    have hlt : t < (t / bd + 1) * bd := by rw [Nat.mul_comm]; exact Nat.lt_mul_div_succ t hbd
    generalize t / bd = n at hle hlt
    by_cases hn : n < 2
    · have hmul : (n + 1) * bd ≤ 2 * bd := Nat.mul_le_mul_right bd hn
      rw [lineLevel_of_lt (by omega), drivenHigh_of_lt_two bytes hn]
    · obtain ⟨j, rfl⟩ : ∃ j, n = 2 + j := ⟨n - 2, by omega⟩
      rw [Nat.add_mul] at hle
      rw [Nat.add_assoc, Nat.add_mul] at hlt
      cases hb : (messageBits bytes)[j]? with
      | some b => rw [lineLevel_of_bit hb hle hlt, drivenHigh_of_getElem? hb]
      | none =>
        have hlen := List.getElem?_eq_none_iff.mp hb
        have hmul := Nat.mul_le_mul_right bd hlen
        rw [lineLevel_of_ge (by omega), messageBits_getLast, drivenHigh, if_neg hn, Nat.add_sub_cancel_left,
          List.getD_eq_getElem?_getD, hb]
        rfl
  rw [lowAt, lineOfBytes, togglesOf_parity, hlevel]
  cases drivenHigh (some bytes) (t / bd) <;> rfl

/-! ### Falling edges -/

/-- The times at which a run of bits falls. -/
def fallsOf (bd : Nat) : Bool → Nat → List Bool → List Nat
  | _, _, [] => []
  | high, start, b :: bs => if high && !b then start :: fallsOf bd b (start + bd) bs else fallsOf bd b (start + bd) bs

theorem everySecond_cons (a : Nat) (l : List Nat) : everySecond (a :: l) = a :: everySecond l.tail := by
  cases l <;> rfl

/-- Of the level changes every second is a falling edge: from the first where the line was high, from the second where it was low. -/
theorem everySecond_togglesOf (bd start : Nat) (bits : List Bool) :
    everySecond (togglesOf bd true start bits) = fallsOf bd true start bits ∧
    everySecond (togglesOf bd false start bits).tail = fallsOf bd false start bits := by
  induction bits generalizing start with
  | nil => exact ⟨rfl, rfl⟩
  | cons b bs ih =>
    obtain ⟨h1, h0⟩ := ih (start + bd)
    cases b with
    | true => exact ⟨h1, h1⟩
    | false => exact ⟨(everySecond_cons _ _).trans (congrArg (start :: ·) h0), h0⟩

theorem fallsOf_append (bd : Nat) (high : Bool) (start : Nat) (l l' : List Bool) : fallsOf bd high start (l ++ l') =
    fallsOf bd high start l ++ fallsOf bd (l.getLast?.getD high) (start + l.length * bd) l' := by
  induction l generalizing high start with
  | nil => rw [List.length_nil, Nat.zero_mul]; rfl
  | cons b l ih =>
    have hstart : start + bd + l.length * bd = start + (b :: l).length * bd := by rw [List.length_cons, Nat.add_mul]; omega
    rw [List.cons_append, fallsOf, fallsOf, ih, hstart, List.getLast?_cons]
    split <;> rfl

theorem exists_of_mem_fallsOf {bd : Nat} {high : Bool} {start : Nat} {bits : List Bool} {x : Nat}
    (h : x ∈ fallsOf bd high start bits) :
    ∃ i : Nat, bits[i]? = some false ∧ x = start + i * bd := by
  induction bits generalizing high start with
  | nil => cases h
  | cons b bs ih =>
    have hrest (h : x ∈ fallsOf bd b (start + bd) bs) : ∃ i : Nat, (b :: bs)[i]? = some false ∧ x = start + i * bd := by
      obtain ⟨i, hi, hx⟩ := ih h
      exact ⟨i + 1, hi, by rw [hx, Nat.add_mul]; omega⟩
    rw [fallsOf] at h
    split at h
    · next hb =>
      rcases List.mem_cons.mp h with h | h
      · refine ⟨0, ?_, by omega⟩
        cases b with
        | true => simp at hb
        | false => rfl
      · exact hrest h
    · exact hrest h

/-- The times at which a message falls, its first start bit at `start`. -/
def messageFalls (bd start : Nat) (bytes : List Byte) : List Nat := fallsOf bd true start (messageBits bytes)

theorem falls_lineOfBytes (bd : Nat) (bytes : List Byte) : falls (lineOfBytes bd bytes) = messageFalls bd (2 * bd) bytes :=
  (everySecond_togglesOf bd (2 * bd) (messageBits bytes)).1

theorem messageFalls_append (bd start : Nat) (l l' : List Byte) : messageFalls bd start (l ++ l') =
    messageFalls bd start l ++ messageFalls bd (start + 10 * l.length * bd) l' := by
  rw [messageFalls, messageBits_append, fallsOf_append, messageBits_getLast, messageBits_length]
  rfl

theorem messageFalls_cons (bd start : Nat) (b : Byte) (bytes : List Byte) :
    ∃ rest, messageFalls bd start (b :: bytes) = start :: rest :=
  ⟨_, rfl⟩

/-- The last falling edge of a message comes before its last data bit ends. -/
theorem messageFalls_bounds {bd start x : Nat} {bytes : List Byte} (h : x ∈ messageFalls bd start bytes) :
    start ≤ x ∧ x + 2 * bd ≤ start + 10 * bytes.length * bd := by
  obtain ⟨i, hi, rfl⟩ := exists_of_mem_fallsOf h
  have hlt : i < 10 * bytes.length := messageBits_length bytes ▸ (List.getElem?_eq_some_iff.mp hi).1
  have hlast : i + 1 ≠ 10 * bytes.length := fun he => by
    have hget := messageBits_getLast bytes
    rw [List.getLast?_eq_getElem?, messageBits_length, ← he, Nat.add_sub_cancel, hi] at hget
    cases hget
  have hmul : (i + 2) * bd ≤ 10 * bytes.length * bd := Nat.mul_le_mul_right bd (by omega)
  rw [Nat.add_mul] at hmul
  exact ⟨Nat.le_add_right _ _, by omega⟩

/-! ### Sampling a message -/

/-- The start edge of byte `m` of a message sent alone. -/
def edgeAt (bd m : Nat) : Nat := 2 * bd + 10 * m * bd

theorem lowAt_sample {bd : Nat} (hbd : 2 ≤ bd) {bytes : List Byte} {m : Nat} {b : Byte} (hb : bytes[m]? = some b)
    {i : Nat} {x : Bool} (hx : (byteBits b)[i]? = some x) : lowAt (lineOfBytes bd bytes) (edgeAt bd m + i * bd + bd / 2) = !x := by
  have hi : i < 10 := (List.getElem?_eq_some_iff.mp hx).1
  have hdiv : (edgeAt bd m + i * bd + bd / 2) / bd = 2 + (10 * m + i) := by
    rw [edgeAt, ← Nat.add_mul, ← Nat.add_mul, Nat.mul_comm, Nat.mul_add_div (by omega), Nat.div_eq_of_lt (by omega), Nat.add_zero,
      Nat.add_assoc]
  rw [lowAt_lineOfBytes (by omega), hdiv, drivenHigh_of_getElem? ((messageBits_bit hb hi).trans hx)]

theorem sampledByte_lineOfBytes {bd : Nat} (hbd : 2 ≤ bd) {bytes : List Byte} {m : Nat} {b : Byte} (hb : bytes[m]? = some b) :
    sampledByte (lineOfBytes bd bytes) bd (edgeAt bd m) = b := by
  refine ofNat_natOfBitsLsbFirst _ b fun i hi => ?_
  have hlist : [1, 2, 3, 4, 5, 6, 7, 8].map (fun m' => !lowAt (lineOfBytes bd bytes) (edgeAt bd m + m' * bd + bd / 2)) =
      (List.range 8).map (fun i => !lowAt (lineOfBytes bd bytes) (edgeAt bd m + (1 + i) * bd + bd / 2)) := rfl
  rw [hlist, List.getD_eq_getElem?_getD, List.getElem?_map, List.getElem?_range hi, Option.map_some, Option.getD_some,
    lowAt_sample hbd hb (byteBits_data b hi), Bool.not_not]

theorem byteWhole_lineOfBytes {bd : Nat} (hbd : 2 ≤ bd) {bytes : List Byte} {m : Nat} {b : Byte} (hb : bytes[m]? = some b)
    {settle : Nat} (hs : 2 * bd + 10 * bytes.length * bd ≤ settle) : byteWhole (lineOfBytes bd bytes) bd settle (edgeAt bd m) := by
  have hstart := lowAt_sample hbd hb (i := 0) (x := false) rfl
  rw [Nat.zero_mul, Nat.add_zero] at hstart
  refine ⟨hstart, lowAt_sample hbd hb (i := 9) (x := true) rfl, ?_⟩
  have hlt := (List.getElem?_eq_some_iff.mp hb).1
  have hmul : 10 * (m + 1) * bd ≤ 10 * bytes.length * bd := Nat.mul_le_mul_right bd (by omega)
  rw [Nat.mul_add, Nat.add_mul] at hmul
  unfold edgeAt
  omega

/-- The falling edges of a message before the end of byte `m`, and those after it. -/
theorem falls_split (bd : Nat) {bytes : List Byte} {m : Nat} (h : m ≤ bytes.length) : ∃ before,
    falls (lineOfBytes bd bytes) = before ++ messageFalls bd (edgeAt bd m) (bytes.drop m) ∧
      ∀ x ∈ before, 2 * bd ≤ x ∧ x + 2 * bd ≤ edgeAt bd m := by
  have hlen : (bytes.take m).length = m := List.length_take_of_le h
  refine ⟨messageFalls bd (2 * bd) (bytes.take m), ?_, fun x hx => ?_⟩
  · rw [falls_lineOfBytes, edgeAt]
    conv_lhs => rw [← List.take_append_drop m bytes]
    rw [messageFalls_append, hlen]
  · have hb := messageFalls_bounds hx
    rw [hlen] at hb
    exact hb

theorem edgeAt_succ (bd m : Nat) : edgeAt bd (m + 1) = edgeAt bd m + 10 * bd := by
  rw [edgeAt, edgeAt, Nat.mul_add, Nat.add_mul]
  omega

/-- The first falling edge from the sample of the last stop bit on is the start edge of byte `m`, where such a byte follows. -/
theorem find_fall_lineOfBytes {bd : Nat} {bytes : List Byte} {m : Nat} (h : m < bytes.length) {p : Nat → Bool}
    (hbefore : ∀ x, 2 * bd ≤ x → x + 2 * bd ≤ edgeAt bd m → p x = false) (hat : p (edgeAt bd m) = true) :
    (falls (lineOfBytes bd bytes)).find? p = some (edgeAt bd m) := by
  obtain ⟨before, hfalls, hearly⟩ := falls_split bd (Nat.le_of_lt h)
  obtain ⟨b, rest, hdrop⟩ := List.exists_cons_of_length_pos (l := bytes.drop m) (by rw [List.length_drop]; omega)
  obtain ⟨more, hmore⟩ := messageFalls_cons bd (edgeAt bd m) b rest
  rw [hfalls, hdrop, hmore, List.find?_append, List.find?_eq_none.mpr fun x hx => by
    rw [hbefore x (hearly x hx).1 (hearly x hx).2]; simp]
  exact List.find?_cons_of_pos hat

theorem firstFall_next {bd : Nat} (hbd : 2 ≤ bd) {bytes : List Byte} {m : Nat} (h : m + 1 < bytes.length) :
    firstFall (lineOfBytes bd bytes) (edgeAt bd m + 9 * bd + bd / 2) (edgeAt bd m + 11 * bd) = some (edgeAt bd (m + 1)) := by
  have hedge := edgeAt_succ bd m
  refine find_fall_lineOfBytes h (fun x _ hx => ?_) ?_
  · simp only [Bool.and_eq_false_iff, decide_eq_false_iff_not]
    omega
  · simp only [Bool.and_eq_true, decide_eq_true_eq]
    omega

theorem firstFall_last {bd : Nat} (hbd : 2 ≤ bd) {bytes : List Byte} {m : Nat} (h : m + 1 = bytes.length) (limit : Nat) :
    firstFall (lineOfBytes bd bytes) (edgeAt bd m + 9 * bd + bd / 2) limit = none := by
  obtain ⟨before, hfalls, hearly⟩ := falls_split bd (Nat.le_of_eq h)
  have hedge := edgeAt_succ bd m
  rw [firstFall, hfalls, List.drop_eq_nil_of_le (Nat.le_of_eq h.symm), List.find?_eq_none]
  intro x hx
  rcases List.mem_append.mp hx with hx | hx
  · have := hearly x hx
    simp only [Bool.and_eq_true, decide_eq_true_eq, not_and]
    omega
  · cases hx

/-! ### A message sent alone is carried whole -/

theorem searchAccepts_lineOfBytes {bd : Nat} (hbd : 2 ≤ bd) {bytes : List Byte} (h : 0 < bytes.length) :
    searchAccepts (lineOfBytes bd bytes) bd 0 [] (edgeAt bd 0) := by
  have hedge : edgeAt bd 0 = 2 * bd := by rw [edgeAt]; omega
  have hstart := (byteWhole_lineOfBytes hbd (List.getElem?_eq_getElem h) (Nat.le_refl _)).1
  refine ⟨find_fall_lineOfBytes h (fun x hlow hx => ?_) (decide_eq_true (Nat.zero_le _)), by omega, hstart⟩
  omega

theorem follow_lineOfBytes {bd : Nat} (hbd : 2 ≤ bd) {bytes : List Byte} {settle : Nat}
    (hs : 2 * bd + 10 * bytes.length * bd ≤ settle) (n m : Nat) (h : m + n < bytes.length) :
    startEdges.follow (lineOfBytes bd bytes) bd settle (edgeAt bd m) ((List.range' (m + 1) n).map (edgeAt bd)) := by
  induction n generalizing m with
  | zero => trivial
  | succ n ih =>
    have hm : m < bytes.length := by omega
    exact ⟨byteWhole_lineOfBytes hbd (List.getElem?_eq_getElem hm) hs, firstFall_next hbd (by omega), ih (m + 1) (by omega)⟩

/-- R29, R30: the waveform of a message carries the message, in a window long enough for it. -/
theorem carries_lineOfBytes {bd : Nat} (hbd : 2 ≤ bd) {bytes : List Byte} {n : Nat} (h : bytes.length = n + 1) {settle : Nat}
    (hs : 2 * bd + 10 * bytes.length * bd ≤ settle) : carries (lineOfBytes bd bytes) bd settle bytes := by
  have hedges : (List.range n).map (edgeAt bd) ++ [edgeAt bd n] = (List.range (n + 1)).map (edgeAt bd) := by
    rw [List.range_succ, List.map_append, List.map_singleton]
  have hcons : (List.range (n + 1)).map (edgeAt bd) = edgeAt bd 0 :: (List.range' 1 n).map (edgeAt bd) := by
    rw [List.range_eq_range', List.range'_succ, List.map_cons]
  refine ⟨(List.range n).map (edgeAt bd), edgeAt bd n, ?_, ?_, ?_, firstFall_last hbd (by omega) settle⟩
  · rw [hedges, hcons]
    exact ⟨⟨[], searchAccepts_lineOfBytes hbd (by omega)⟩, follow_lineOfBytes hbd hs n 0 (by omega)⟩
  · exact byteWhole_lineOfBytes hbd (List.getElem?_eq_getElem (show n < bytes.length by omega)) hs
  · rw [hedges, List.map_map, ← h]
    refine List.ext_getElem (by rw [List.length_map, List.length_range]) fun i hi hib => ?_
    rw [List.getElem_map, List.getElem_range]
    exact sampledByte_lineOfBytes hbd (List.getElem?_eq_getElem hib)

/-! ### Reception of a chain of bytes (R30) -/

theorem messageIs_iff (kind : WindowKind) (got : List Byte) (n : Nat) : messageIs kind got n ↔ messageLength kind got = some n := by
  cases kind with
  | digest => exact (eq_comm (a := n)).trans (Option.some_inj (a := 7)).symm
  | claim =>
    by_cases hlen : got.length < 4
    · simp [messageIs, messageLength, hlen]
    · simp [messageIs, messageLength, hlen, countField_eq, Nat.le_of_not_lt hlen, eq_comm]

/-- The length of a message, once known, stands. -/
theorem messageLength_append {kind : WindowKind} {got : List Byte} {n : Nat} (h : messageLength kind got = some n) (more : List Byte) :
    messageLength kind (got ++ more) = some n := by
  rw [← messageIs_iff] at h ⊢
  cases kind with
  | digest => exact h
  | claim =>
    obtain ⟨hlen, hn⟩ := h
    exact ⟨by rw [List.length_append]; omega, by rw [byteAt_append_left got more 3 hlen]; exact hn⟩

theorem receiveBytes_of_start_high {kind : WindowKind} {line : DatLine} {bd settle : Nat} (fuel : Nat) (got : List Byte) {e : Nat}
    (h : lowAt line (e + bd / 2) = false) : receiveBytes kind line bd settle fuel got e = .damaged := by
  cases fuel with
  | zero => rfl
  | succ fuel => simp [receiveBytes, h]

theorem receiveBytes_of_stop_low {kind : WindowKind} {line : DatLine} {bd settle : Nat} (fuel : Nat) (got : List Byte) {e : Nat}
    (h : lowAt line (e + 9 * bd + bd / 2) = true) : receiveBytes kind line bd settle fuel got e = .damaged := by
  cases fuel with
  | zero => rfl
  | succ fuel => simp [receiveBytes, h]

theorem receiveBytes_of_settled {kind : WindowKind} {line : DatLine} {bd settle : Nat} (fuel : Nat) (got : List Byte) {e : Nat}
    (h : settle ≤ e + 9 * bd + bd / 2) : receiveBytes kind line bd settle fuel got e = .damaged := by
  cases fuel with
  | zero => rfl
  | succ fuel => simp [receiveBytes, h]

theorem receiveBytes_of_too_long {kind : WindowKind} {line : DatLine} {bd settle : Nat} (fuel : Nat) {got : List Byte} {e n : Nat}
    (hn : messageLength kind (got ++ [sampledByte line bd e]) = some n) (h : 14 < n) :
    receiveBytes kind line bd settle fuel got e = .damaged := by
  cases fuel with
  | zero => rfl
  | succ fuel => simp [receiveBytes, hn, h]

/-- What a whole byte leads to while more are to come: the byte at the next start edge. -/
theorem receiveBytes_of_next {kind : WindowKind} {line : DatLine} {bd settle : Nat} (fuel : Nat) {got : List Byte} {e e' : Nat}
    (hw : byteWhole line bd settle e)
    (hlen : ∀ n, messageLength kind (got ++ [sampledByte line bd e]) = some n → got.length + 1 < n ∧ n ≤ 14)
    (hf : firstFall line (e + 9 * bd + bd / 2) (e + 11 * bd) = some e') :
    receiveBytes kind line bd settle (fuel + 1) got e =
      receiveBytes kind line bd settle fuel (got ++ [sampledByte line bd e]) e' := by
  obtain ⟨hstart, hstop, hsettle⟩ := hw
  cases hm : messageLength kind (got ++ [sampledByte line bd e]) with
  | none => simp [receiveBytes, hstart, hstop, Nat.not_le.mpr hsettle, hm, hf]
  | some n =>
    obtain ⟨hlt, hle⟩ := hlen n hm
    simp [receiveBytes, hstart, hstop, Nat.not_le.mpr hsettle, hm, hf, hlt, Nat.not_lt.mpr hle]

theorem receiveBytes_of_no_next {kind : WindowKind} {line : DatLine} {bd settle : Nat} (fuel : Nat) {got : List Byte} {e : Nat}
    (hlen : ∀ n, messageLength kind (got ++ [sampledByte line bd e]) = some n → got.length + 1 < n)
    (hf : firstFall line (e + 9 * bd + bd / 2) (e + 11 * bd) = none) :
    receiveBytes kind line bd settle fuel got e = .damaged := by
  cases fuel with
  | zero => rfl
  | succ fuel =>
    cases hm : messageLength kind (got ++ [sampledByte line bd e]) with
    | none => simp [receiveBytes, hm, hf]
    | some n => simp [receiveBytes, hm, hf, hlen n hm]

theorem receiveBytes_of_overrun {kind : WindowKind} {line : DatLine} {bd settle : Nat} (fuel : Nat) {got : List Byte} {e : Nat}
    (hm : messageLength kind (got ++ [sampledByte line bd e]) = some (got.length + 1))
    (hf : firstFall line (e + 9 * bd + bd / 2) settle ≠ none) : receiveBytes kind line bd settle fuel got e = .damaged := by
  cases fuel with
  | zero => rfl
  | succ fuel => simp [receiveBytes, hm, Option.isSome_iff_ne_none.mpr hf]

theorem receiveBytes_of_last {kind : WindowKind} {line : DatLine} {bd settle : Nat} (fuel : Nat) {got : List Byte} {e : Nat}
    (hw : byteWhole line bd settle e) (hm : messageLength kind (got ++ [sampledByte line bd e]) = some (got.length + 1))
    (hle : got.length + 1 ≤ 14) (hf : firstFall line (e + 9 * bd + bd / 2) settle = none) :
    receiveBytes kind line bd settle (fuel + 1) got e = .bytes (got ++ [sampledByte line bd e]) := by
  obtain ⟨hstart, hstop, hsettle⟩ := hw
  simp [receiveBytes, hstart, hstop, Nat.not_le.mpr hsettle, hm, hf, Nat.not_lt.mpr hle]

/-- Along a chain of start edges reception takes up the bytes one after another, and comes to the last one. -/
theorem receiveBytes_chain {kind : WindowKind} {line : DatLine} {bd settle : Nat} (fuel : Nat) {before : List Nat} {e f : Nat}
    {rest : List Nat} {got : List Byte} (hsplit : before ++ [e] = f :: rest) (hfollow : startEdges.follow line bd settle f rest)
    (hlen : ∀ n, messageLength kind (got ++ (f :: rest).map (sampledByte line bd)) = some n →
      got.length + (before.length + 1) ≤ n ∧ n ≤ 14) :
    receiveBytes kind line bd settle (fuel + before.length) got f =
      receiveBytes kind line bd settle fuel (got ++ before.map (sampledByte line bd)) e := by
  induction before generalizing f rest got with
  | nil =>
    obtain ⟨rfl, rfl⟩ := List.cons.inj hsplit
    rw [List.map_nil, List.append_nil]
    rfl
  | cons b before ih =>
    obtain ⟨rfl, hrest⟩ := List.cons.inj hsplit
    obtain ⟨f', rest', rfl⟩ := List.exists_cons_of_ne_nil (l := rest) (hrest ▸ List.append_ne_nil_of_right_ne_nil _ (by simp))
    obtain ⟨hw, hf, hfollow⟩ := hfollow
    have hwhole : got ++ [sampledByte line bd b] ++ (f' :: rest').map (sampledByte line bd) =
        got ++ (b :: f' :: rest').map (sampledByte line bd) := List.append_assoc _ _ _
    rw [List.length_cons] at hlen
    rw [List.length_cons, ← Nat.add_assoc, receiveBytes_of_next _ hw (fun n hn => ?_) hf, ih hrest hfollow (fun n hn => ?_),
      List.map_cons, List.append_assoc]
    · rfl
    · have := hlen n (hwhole ▸ hn)
      rw [List.length_append, List.length_singleton]
      omega
    · have := hlen n (hwhole ▸ messageLength_append hn _)
      omega

/-- A message whose length is more than any message has is DAMAGED at the byte that gives it. -/
theorem receiveBytes_chain_too_long {kind : WindowKind} {line : DatLine} {bd settle : Nat} (fuel : Nat) {f n : Nat}
    {rest : List Nat} {got : List Byte} (hfollow : startEdges.follow line bd settle f rest)
    (hn : messageLength kind (got ++ (f :: rest).map (sampledByte line bd)) = some n) (hlong : 14 < n) :
    receiveBytes kind line bd settle fuel got f = .damaged := by
  induction rest generalizing f got fuel with
  | nil => exact receiveBytes_of_too_long fuel hn hlong
  | cons f' rest ih =>
    obtain ⟨hw, hf, hfollow⟩ := hfollow
    have hwhole : got ++ [sampledByte line bd f] ++ (f' :: rest).map (sampledByte line bd) =
        got ++ (f :: f' :: rest).map (sampledByte line bd) := List.append_assoc _ _ _
    rw [← hwhole] at hn
    cases hm : messageLength kind (got ++ [sampledByte line bd f]) with
    | some n' => exact receiveBytes_of_too_long fuel hm (by rw [messageLength_append hm] at hn; injection hn; omega)
    | none =>
      cases fuel with
      | zero => rfl
      | succ fuel =>
        rw [receiveBytes_of_next fuel hw (by rw [hm]; nofun) hf]
        exact ih fuel hfollow hn

/-! ### Reception of a window (R29, R30) -/

theorem receive_of_search {line : DatLine} {bd e : Nat} (kind : WindowKind)
    (h : ∃ falseStarts, searchAccepts line bd 0 falseStarts e) :
    receive kind bd line = receiveBytes kind line bd (settleBits kind * bd) 14 [] e := by
  rw [receive, (startSearch_eq_some_iff line bd e).mpr h]

theorem receive_silent {line : DatLine} {bd : Nat} (kind : WindowKind)
    (h : ∀ falseStarts e, ¬ searchAccepts line bd 0 falseStarts e) : receive kind bd line = .silent := by
  have hnone : startSearch line bd (falls line) 0 = none := Option.eq_none_iff_forall_ne_some.mpr fun e he =>
    let ⟨falseStarts, hs⟩ := (startSearch_eq_some_iff line bd e).mp he
    h falseStarts e hs
  rw [receive, hnone]

theorem messageLength_le_of_length {kind : WindowKind} {got : List Byte}
    (h : ∀ n, messageLength kind got = some n → got.length ≤ n ∧ n ≤ 14) : got.length ≤ 14 := by
  cases hm : messageLength kind got with
  | some n => have := h n hm; omega
  | none =>
    cases kind with
    | digest => cases hm
    | claim =>
      by_cases hlen : got.length < 4
      · omega
      · simp [messageLength, hlen] at hm

/-- Where no more bytes than the message has are taken up, reception comes to the last start edge, or the message is too long. -/
theorem receive_startEdges {kind : WindowKind} {line : DatLine} {bd : Nat} {before : List Nat} {e : Nat}
    (h : startEdges line bd (settleBits kind * bd) (before ++ [e]))
    (hlen : ∀ n, messageLength kind ((before ++ [e]).map (sampledByte line bd)) = some n → (before ++ [e]).length ≤ n) :
    (receive kind bd line = .damaged ∧
      ∃ n, messageLength kind ((before ++ [e]).map (sampledByte line bd)) = some n ∧ 14 < n) ∨
    ((∀ n, messageLength kind ((before ++ [e]).map (sampledByte line bd)) = some n → n ≤ 14) ∧ before.length + 1 ≤ 14 ∧
      ∃ fuel, receive kind bd line =
        receiveBytes kind line bd (settleBits kind * bd) (fuel + 1) (before.map (sampledByte line bd)) e) := by
  obtain ⟨f, rest, hsplit⟩ := List.exists_cons_of_ne_nil (l := before ++ [e]) (List.append_ne_nil_of_right_ne_nil _ (by simp))
  have hcount : (before ++ [e]).length = before.length + 1 := List.length_append
  rw [hcount] at hlen
  rw [hsplit] at h hlen ⊢
  obtain ⟨hsearch, hfollow⟩ := h
  rw [receive_of_search kind hsearch]
  by_cases hlong : ∃ n, messageLength kind ((f :: rest).map (sampledByte line bd)) = some n ∧ 14 < n
  · obtain ⟨n, hn, hlt⟩ := hlong
    exact .inl ⟨receiveBytes_chain_too_long 14 hfollow hn hlt, n, hn, hlt⟩
  · have hle : ∀ n, messageLength kind ((f :: rest).map (sampledByte line bd)) = some n → n ≤ 14 :=
      fun n hn => Nat.le_of_not_lt fun hlt => hlong ⟨n, hn, hlt⟩
    have hmax : before.length + 1 ≤ 14 := by
      have hbytes : ((f :: rest).map (sampledByte line bd)).length = before.length + 1 := by
        rw [List.length_map, ← hsplit, hcount]
      rw [← hbytes] at hlen ⊢
      exact messageLength_le_of_length fun n hn => ⟨hlen n hn, hle n hn⟩
    obtain ⟨fuel, hfuel⟩ : ∃ fuel, 14 = fuel + 1 + before.length := ⟨13 - before.length, by omega⟩
    refine .inr ⟨hle, hmax, fuel, ?_⟩
    rw [hfuel]
    refine receiveBytes_chain (fuel + 1) hsplit hfollow (fun n hn => ⟨?_, hle n hn⟩)
    rw [List.length_nil, Nat.zero_add]
    exact hlen n hn

/-- R30: a line that carries a whole message is received as its bytes. -/
theorem receive_of_carries {kind : WindowKind} {line : DatLine} {bd : Nat} {bytes : List Byte}
    (h : carries line bd (settleBits kind * bd) bytes) (hlen : messageLength kind bytes = some bytes.length)
    (hle : bytes.length ≤ 14) : receive kind bd line = .bytes bytes := by
  obtain ⟨before, e, hedges, hw, rfl, hf⟩ := h
  have hcount : ((before ++ [e]).map (sampledByte line bd)).length = before.length + 1 := by
    rw [List.length_map, List.length_append, List.length_singleton]
  have hbytes : (before ++ [e]).map (sampledByte line bd) = before.map (sampledByte line bd) ++ [sampledByte line bd e] :=
    List.map_append
  have hsome := hlen
  rcases receive_startEdges hedges (fun n hn => by rw [hlen] at hn; injection hn with hn; simp [← hn]) with
    ⟨_, n, hn, hlong⟩ | ⟨_, hmax, fuel, hr⟩
  · rw [hlen] at hn
    injection hn
    omega
  · rw [hcount, hbytes] at hsome
    rw [hr, hbytes]
    refine receiveBytes_of_last fuel hw ?_ ?_ hf
    · rw [List.length_map]; exact hsome
    · rw [List.length_map]; exact hmax

/-! ### DAT of the transmitter (R21, R25) -/

theorem State.datPulled_of_sending {s : State} {c : Settings} {kind : WindowKind} {bytes : List Byte} (hc : s.cfg = some c)
    (htx : s.bus.tx = .sending kind bytes) :
    s.datPulled = !drivenHigh (some bytes) ((s.timer.value - c.windowStart kind s.me) / c.bitTu) := by
  unfold State.datPulled
  rw [hc, htx]
  rfl

theorem drivenHigh_message (bytes : List Byte) (j : Nat) :
    (!drivenHigh (some bytes) (2 + j)) = true ↔ (messageBits bytes)[j]? = some false := by
  cases hb : (messageBits bytes)[j]? with
  | some b => rw [drivenHigh_of_getElem? hb]; cases b <;> simp
  | none =>
    rw [drivenHigh, if_neg (by omega), Nat.add_sub_cancel_left, List.getD_eq_getElem?_getD, hb]
    simp

/-- In REFCLK periods since the window's start the pin shows the waveform of the message. -/
theorem State.datPulled_eq_lowAt {s : State} {c : Settings} {kind : WindowKind} {bytes : List Byte} (hc : s.cfg = some c)
    (htx : s.bus.tx = .sending kind bytes) (hb : 1 ≤ c.bitTu) (hp : s.timer.prescaler < c.divider) :
    s.datPulled = lowAt (lineOfBytes (c.bitTu * c.divider) bytes)
      (c.divider * (s.timer.value - c.windowStart kind s.me) + s.timer.prescaler) := by
  have hd : 0 < c.divider := by omega
  rw [s.datPulled_of_sending hc htx, lowAt_lineOfBytes (Nat.mul_pos hb hd), Nat.mul_comm c.bitTu, ← Nat.div_div_eq_div_mul,
    Nat.mul_add_div hd, Nat.div_eq_of_lt hp, Nat.add_zero]

end Sys2Proof.Machine

namespace Sys2Proof.Proofs

open Sys2Proof.Machine

/-- Settles O31: bit by bit the line shows what the transmitter drives, so every sample of a byte reads its bit, and the only
falling edge between the bits sampled last and the next byte is its start edge. -/
theorem receiverReadsTransmitter : Obligations.ReceiverReadsTransmitter := by
  unfold Obligations.ReceiverReadsTransmitter
  refine ⟨fun kind bytes s c hc => ?_, fun s h => State.datPulled_of_not_sending h, fun bytes => ⟨messageBits_length bytes,
    fun m b hm => ⟨messageBits_bit hm (i := 0) (by decide), fun i hi => ?_, messageBits_bit hm (i := 9) (by decide)⟩⟩,
    fun kind bd bytes hbd hdigest hclaim => ?_⟩
  · have hstart : c.windowStart kind s.me = 24 + (match kind with
        | .claim => 160 * c.bitTu * s.me
        | .digest => 160 * c.windows * c.bitTu + c.gap + 80 * c.bitTu * s.me) := by
      cases kind with
      | claim => rfl
      | digest =>
        rw [Settings.windowStart, Settings.digestStart, Settings.claimClose, Nat.add_assoc, Nat.add_assoc, Nat.add_assoc]
    intro htx hb start
    rw [← show c.windowStart kind s.me = start from hstart]
    refine ⟨fun n hn1 hn2 => ?_, fun _ hp => State.datPulled_eq_lowAt hc htx hb hp⟩
    have hbit : (s.timer.value - c.windowStart kind s.me) / c.bitTu = n := by
      rw [Nat.div_eq_iff (by omega)]
      rw [Nat.add_mul] at hn2
      omega
    rw [State.datPulled_of_sending hc htx, hbit]
    refine ⟨fun hn => by rw [drivenHigh_of_lt_two bytes hn]; rfl, ?_⟩
    rintro j rfl
    exact drivenHigh_message bytes j
  · rw [Nat.add_assoc, messageBits_bit hm (by omega), byteBits_data b hi]
  · have hsettle {n : Nat} (hn : 10 * bytes.length + 2 ≤ n) : 2 * bd + 10 * bytes.length * bd ≤ n * bd := by
      have := Nat.mul_le_mul_right bd hn
      rw [Nat.add_mul] at this
      omega
    cases kind with
    | digest =>
      have hlen := hdigest rfl
      exact receive_of_carries (carries_lineOfBytes hbd (n := 6) hlen (hsettle (n := 79) (by omega))) (congrArg some hlen.symm)
        (by omega)
    | claim =>
      obtain ⟨hcount, hmax⟩ := hclaim rfl
      exact receive_of_carries (carries_lineOfBytes hbd (n := bytes.length - 1) (by omega) (hsettle (n := 159) (by omega)))
        ((messageIs_iff .claim bytes _).mp ⟨by omega, hcount⟩) hmax

end Sys2Proof.Proofs
end

section
/-! What a window settles to (O28, O29, O30). -/

namespace Sys2Proof.Machine

/-! ### Classification (R32 to R34) -/

/-- The kind, owner, content and check conditions of R32. -/
theorem bytesDamaged_iff (kind : WindowKind) (k : Nat) (bytes : List Byte) : bytesDamaged kind k bytes = true ↔
    byteAt bytes 0 ≠ kindByte kind ∨ (byteAt bytes 1).toNat / 16 ≠ k ∨ checkPasses bytes = false ∨
      (kind = .claim ∧ ((byteAt bytes 3).getLsbD 7 = true ∧ (byteAt bytes 3).getLsbD 6 = true ∨
        ((byteAt bytes 3).getLsbD 7 = true ∨ (byteAt bytes 3).getLsbD 6 = true) ∧ (byteAt bytes 3).toNat % 8 ≠ 0)) := by
  rw [bytesDamaged, ownerField_eq, countField_eq]
  simp only [Bool.or_eq_true, Bool.and_eq_true, bne_iff_ne, beq_iff_eq, Bool.not_eq_true', or_assoc]
  exact or_congr_right (or_congr_right or_comm)

theorem Announcement.bytesDamaged_encode {a : Announcement} (h : a.inRange = true) (hf : a.flagsLegal) :
    bytesDamaged .claim a.station a.encode = false := by
  obtain ⟨hs, hg, hlen, _⟩ := a.inRange_iff.mp h
  obtain ⟨hj, hl, _⟩ := Announcement.encode_flags hlen
  obtain ⟨hboth, hnone⟩ := hf
  have howner := Announcement.encode_owner hs hg
  rw [Bool.eq_false_iff, Ne, bytesDamaged_iff, hj, hl, Announcement.encode_count hlen]
  rintro (hk | ho | hc | ⟨_, hjl | ⟨hjl, hn⟩⟩)
  · exact hk rfl
  · exact ho (by omega)
  · exact Bool.noConfusion ((checkPasses_withCheck _).symm.trans hc)
  · exact hboth hjl
  · exact hn (congrArg List.length (hnone hjl))

theorem DigestMessage.bytesDamaged_encode {d : DigestMessage} (h : d.station < 16) :
    bytesDamaged .digest d.station d.encode = false := by
  rw [Bool.eq_false_iff, Ne, bytesDamaged_iff]
  rintro (hk | ho | hc | ⟨hk, _⟩)
  · exact hk rfl
  · exact ho (by
      rw [show byteAt d.encode 1 = byteOf (d.station * 16) from rfl, byteOf_toNat (by omega)]
      omega)
  · exact Bool.noConfusion ((checkPasses_withCheck _).symm.trans hc)
  · cases hk

theorem classify_announcement {a : Announcement} (h : a.inRange = true) (hf : a.flagsLegal) (fingerprint : Half) (frame : Byte) :
    classify .claim a.station fingerprint frame (.bytes a.encode) =
      if a.fingerprint = fingerprint then .intact (stepOf frame a.frame) (.announcement a) else .foreign := by
  simp only [classify, Announcement.bytesDamaged_encode h hf, Announcement.decode_encode h, Bool.false_eq_true, if_false, ite_not]

theorem classify_digest {d : DigestMessage} (h : d.station < 16) (fingerprint : Half) (frame : Byte) :
    classify .digest d.station fingerprint frame (.bytes d.encode) = .intact (stepOf frame d.frame) (.digest d) := by
  simp only [classify, DigestMessage.bytesDamaged_encode h, DigestMessage.decode_encode h, Bool.false_eq_true, if_false]

theorem receive_announcement {a : Announcement} (h : a.inRange = true) {bd : Nat} (hbd : 2 ≤ bd) {line : DatLine}
    (hline : line = lineOfBytes bd a.encode ∨ carries line bd (159 * bd) a.encode) : receive .claim bd line = .bytes a.encode := by
  obtain ⟨_, _, hlen, _⟩ := a.inRange_iff.mp h
  have hbytes := a.encode_length
  have hsettle := Nat.mul_le_mul_right bd (show 2 + 10 * a.encode.length ≤ 159 by omega)
  rw [Nat.add_mul] at hsettle
  have hcarries : carries line bd (159 * bd) a.encode := by
    rcases hline with rfl | hc
    · exact carries_lineOfBytes hbd (n := 9 + a.claims.length) (by omega) hsettle
    · exact hc
  refine receive_of_carries hcarries ((messageIs_iff .claim _ _).mp ⟨by omega, ?_⟩) (by omega)
  rw [Announcement.encode_count hlen, hbytes]

theorem receive_digest {d : DigestMessage} {bd : Nat} (hbd : 2 ≤ bd) {line : DatLine}
    (hline : line = lineOfBytes bd d.encode ∨ carries line bd (79 * bd) d.encode) : receive .digest bd line = .bytes d.encode := by
  have hbytes : d.encode.length = 7 := rfl
  have hcarries : carries line bd (79 * bd) d.encode := by
    rcases hline with rfl | hc
    · exact carries_lineOfBytes hbd (n := 6) hbytes (by rw [hbytes]; omega)
    · exact hc
  exact receive_of_carries hcarries (congrArg some hbytes.symm) (by omega)

/-! ### DAMAGED on a line (R30, R32) -/

/-- Reception ends in DAMAGED, or in bytes that R32 calls so. -/
def readsDamaged (kind : WindowKind) (k bd : Nat) (line : DatLine) : Prop :=
  receive kind bd line = .damaged ∨ ∃ bytes, receive kind bd line = .bytes bytes ∧ bytesDamaged kind k bytes = true

theorem classify_of_readsDamaged {kind : WindowKind} {k bd : Nat} {line : DatLine} (h : readsDamaged kind k bd line)
    (fingerprint : Half) (frame : Byte) : classify kind k fingerprint frame (receive kind bd line) = .damaged := by
  rcases h with h | ⟨bytes, h, hd⟩
  · rw [h]; rfl
  · rw [h]; simp only [classify, hd, if_true]

/-- What is DAMAGED at the last start edge of the chain is DAMAGED. -/
theorem readsDamaged_of_last {kind : WindowKind} {k bd : Nat} {line : DatLine} {before : List Nat} {e : Nat}
    (h : startEdges line bd (settleBits kind * bd) (before ++ [e]))
    (hlen : ∀ n, messageLength kind ((before ++ [e]).map (sampledByte line bd)) = some n → (before ++ [e]).length ≤ n)
    (hlast : ∀ fuel, receiveBytes kind line bd (settleBits kind * bd) fuel (before.map (sampledByte line bd)) e = .damaged) :
    readsDamaged kind k bd line := by
  rcases receive_startEdges h hlen with ⟨hr, _⟩ | ⟨_, _, fuel, hr⟩
  · exact .inl hr
  · exact .inl (hr.trans (hlast _))

/-- Bytes of a whole message that fail a condition of R32 are DAMAGED, with or without a framing error. -/
theorem readsDamaged_of_bytes {kind : WindowKind} {k bd : Nat} {line : DatLine} {before : List Nat} {e : Nat}
    (h : startEdges line bd (settleBits kind * bd) (before ++ [e]))
    (hlen : messageLength kind ((before ++ [e]).map (sampledByte line bd)) = some (before.length + 1))
    (hd : bytesDamaged kind k ((before ++ [e]).map (sampledByte line bd)) = true) : readsDamaged kind k bd line := by
  have hlength : (before ++ [e]).length = before.length + 1 := List.length_append
  rcases receive_startEdges h (fun n hn => by rw [hlen] at hn; injection hn; omega) with ⟨hr, _⟩ | ⟨_, hmax, fuel, hr⟩
  · exact .inl hr
  have hbytes : (before ++ [e]).map (sampledByte line bd) = before.map (sampledByte line bd) ++ [sampledByte line bd e] :=
    List.map_append
  have hcount : (before.map (sampledByte line bd)).length = before.length := List.length_map _
  rw [hbytes, ← hcount] at hlen
  by_cases hw : byteWhole line bd (settleBits kind * bd) e
  · cases hf : firstFall line (e + 9 * bd + bd / 2) (settleBits kind * bd) with
    | none => exact .inr ⟨_, hr.trans ((receiveBytes_of_last fuel hw hlen (by omega) hf).trans (congrArg _ hbytes.symm)), hd⟩
    | some x => exact .inl (hr.trans (receiveBytes_of_overrun _ hlen (by rw [hf]; nofun)))
  · refine .inl (hr.trans ?_)
    cases hstart : lowAt line (e + bd / 2) with
    | false => exact receiveBytes_of_start_high _ _ hstart
    | true =>
      cases hstop : lowAt line (e + 9 * bd + bd / 2) with
      | true => exact receiveBytes_of_stop_low _ _ hstop
      | false => exact receiveBytes_of_settled _ _ (Nat.le_of_not_lt fun hs => hw ⟨hstart, hstop, hs⟩)

/-! ### The settle point (R31, R35) -/

/-- The record of window `k` (R31). -/
def State.windowRecord (s : State) (kind : WindowKind) (k : Nat) : WindowRecord :=
  match kind with
  | .claim => s.bus.claimRecords.getD k .empty
  | .digest => s.bus.digestRecords.getD k .empty

/-- The settle point of window `k`, at which the record `r` is written and counted. -/
def State.settled (s : State) (c : Settings) (kind : WindowKind) (k : Nat) (r : WindowRecord) : State :=
  (s.advanceTo c (c.settleAt kind k)).settle kind k r

theorem exec_windowSettle {s : State} {c : Settings} {kind : WindowKind} {k : Nat} {r : WindowRecord} {line : DatLine}
    (hc : s.cfg = some c) (hw : s.bus.window = some (kind, k)) (hr : s.settleRecord c kind k line = r) :
    exec (.windowSettle line) s =
      .next (if k = s.me then s.settled c kind k r else (s.settled c kind k r).handRecord kind k r) := by
  subst hr
  simp only [exec, execWindowSettle, hc, hw]
  split <;> rfl

theorem State.settleRecord_own {s : State} {kind : WindowKind} {o : TxOutcome} (c : Settings) (line : DatLine)
    (h : s.bus.tx.outcomeIn kind = some o) : s.settleRecord c kind s.me line = .own o := by
  simp only [State.settleRecord, if_true, h]

theorem State.settleRecord_own_none {s : State} (c : Settings) (line : DatLine) (h : s.bus.tx.outcomeIn .digest = none)
    (hs : s.station = .member) : s.settleRecord c .digest s.me line = .own .none := by
  simp only [State.settleRecord, if_true, h, hs, and_self]

/-- R35: the station sends nothing of its own in window `k`: it is a peer's, or the station sends nothing in such windows. -/
def State.onlyReceives (s : State) (kind : WindowKind) (k : Nat) : Prop :=
  k ≠ s.me ∨ (s.station.announces = false ∧ s.bus.tx = .idle) ∨
    (kind = .digest ∧ s.station ≠ .member ∧ (s.bus.tx = .idle ∨ ∃ p, s.bus.tx = .done .claim p))

theorem State.settleRecord_received {s : State} {kind : WindowKind} {k : Nat} (c : Settings) (line : DatLine)
    (h : s.onlyReceives kind k) : s.settleRecord c kind k line =
      classify kind k c.fingerprint s.timer.frame (receive kind (c.bitTu * c.divider) line) := by
  have hnone (ho : s.bus.tx.outcomeIn kind = none) (hm : ¬(kind = .digest ∧ s.station = .member)) :
      s.settleRecord c kind k line = classify kind k c.fingerprint s.timer.frame (receive kind c.bitClocks line) := by
    simp only [State.settleRecord, ho, if_neg hm, ite_self]
  rcases h with hk | ⟨ha, htx⟩ | ⟨rfl, hm, htx⟩
  · exact if_neg hk
  · exact hnone (by rw [htx]; rfl) fun hm => by rw [hm.2] at ha; cases ha
  · exact hnone (by rcases htx with htx | ⟨p, htx⟩ <;> rw [htx] <;> rfl) fun h => hm h.2

theorem State.countRecord_bus (s : State) (r : WindowRecord) : (s.countRecord r).bus = s.bus :=
  s.countRecord_frame r .bus (by decide)

theorem State.settled_bus (s : State) (c : Settings) (kind : WindowKind) (k : Nat) (r : WindowRecord) :
    (s.settled c kind k r).bus = s.bus.write kind k r := State.countRecord_bus _ r

theorem State.settled_frame (s : State) (c : Settings) (kind : WindowKind) (k : Nat) (r : WindowRecord) :
    s.onlyChanges (s.settled c kind k r) [.timer, .bus, .engine, .counters] :=
  State.onlyChanges_comp (s.advanceTo_frame c _) (State.settle_frame _ kind k r) (by decide)

theorem State.settled_engineKept (s : State) (c : Settings) (kind : WindowKind) (k : Nat) (r : WindowRecord) :
    s.engineKept (s.settled c kind k r) :=
  State.engineKept_of_eq (s.advanceTo_engineKept c (c.settleAt kind k)) (State.settle_frame _ kind k r .engine (by decide))

theorem getD_set_self {α : Type} {l : List α} {k : Nat} (h : k < l.length) (x d : α) : (l.set k x).getD k d = x := by
  rw [List.getD_eq_getElem?_getD, List.getElem?_set_self h, Option.getD_some]

theorem getD_set_ne {α : Type} (l : List α) {j k : Nat} (h : k ≠ j) (x d : α) : (l.set k x).getD j d = l.getD j d := by
  rw [List.getD_eq_getElem?_getD, List.getElem?_set_ne h, List.getD_eq_getElem?_getD]

/-- A claim window's record is written in its place, and the window is closed (R31). -/
theorem BusInterface.write_claim {b : BusInterface} {k : Nat} {r : WindowRecord} (hk : k < b.claimRecords.length) {t : State}
    (ht : t.bus = b.write .claim k r) : t.bus.claimRecords.getD k .empty = r ∧ t.bus.window = none ∧
      t.bus.digestRecords = b.digestRecords ∧
      ∀ j, j ≠ k → t.bus.claimRecords.getD j .empty = b.claimRecords.getD j .empty := by
  rw [ht]
  exact ⟨getD_set_self hk _ _, rfl, rfl, fun j hj => getD_set_ne _ (Ne.symm hj) _ _⟩

theorem BusInterface.write_record {b : BusInterface} {kind : WindowKind} {k : Nat} {r : WindowRecord} (hk : k < 16)
    (hclaim : b.claimRecords.length = 16) (hdigest : b.digestRecords.length = 16) {t : State} (ht : t.bus = b.write kind k r) :
    t.windowRecord kind k = r := by
  unfold State.windowRecord
  rw [ht]
  cases kind with
  | claim => exact getD_set_self (by omega) _ _
  | digest => exact getD_set_self (by omega) _ _

/-- A record that is neither counted nor handed over (R31, R32). -/
theorem State.settled_frame_of_uncounted {s : State} {c : Settings} {kind : WindowKind} {k : Nat} {r : WindowRecord}
    (h : ∀ u : State, u.countRecord r = u) : s.onlyChanges (s.settled c kind k r) [.timer, .bus, .engine] := by
  rw [State.settled, State.settle, h]
  exact State.onlyChanges_comp (s.advanceTo_frame c _) (State.setBus_frame _ _) (by decide)

theorem State.countRecord_intact (s : State) (step : FrameStep) (m : Message) : (s.countRecord (.intact step m)).counters =
    if step = .outOfStep ∧ s.station.announces = true then s.counters.add .mismatches 1 else s.counters := by
  cases step with
  | inStep => rfl
  | outOfStep =>
    unfold State.countRecord
    dsimp only
    split
    · next ha => rw [if_pos ⟨rfl, ha⟩]; rfl
    · next ha => rw [if_neg fun h => ha h.2]

theorem StationState.announces_iff (st : StationState) : st.announces = true ↔ st = .joining ∨ st = .member ∨ st = .leaving := by
  cases st <;> decide

theorem StationState.keepsPeers_iff (st : StationState) :
    st.keepsPeers = true ↔ st = .listening ∨ st = .joining ∨ st = .member ∨ st = .leaving := by
  cases st <;> decide

/-- R34: a message out of step counts as a mismatch, in the states that announce. -/
theorem State.settled_counters_of_intact (s : State) (c : Settings) (kind : WindowKind) (k : Nat) (step : FrameStep) (m : Message) :
    (s.settled c kind k (.intact step m)).counters =
      if step = .outOfStep ∧ (s.station = .joining ∨ s.station = .member ∨ s.station = .leaving)
      then s.counters.add .mismatches 1 else s.counters :=
  (State.countRecord_intact _ step m).trans (if_congr (and_congr_right' s.station.announces_iff) rfl rfl)

theorem State.settled_mismatches (s : State) (c : Settings) (kind : WindowKind) (k : Nat) (step : FrameStep) (m : Message) :
    (s.settled c kind k (.intact step m)).counters.mismatches = (if step = .outOfStep ∧
        (s.station = .joining ∨ s.station = .member ∨ s.station = .leaving)
      then saturatingAdd s.counters.mismatches 1 else s.counters.mismatches) ∧
    (s.settled c kind k (.intact step m)).counters.foreign = s.counters.foreign ∧
    (s.settled c kind k (.intact step m)).counters.damaged = s.counters.damaged := by
  rw [State.settled_counters_of_intact]
  split <;> exact ⟨rfl, rfl, rfl⟩

/-! ### The hand-over of a peer's record (R31, R44, R89) -/

theorem State.handRecord_claim_of_keepsPeers {s : State} (h : s.station.keepsPeers = true) (k : Nat) (step : FrameStep) (m : Message) :
    s.handRecord .claim k (.intact step m) =
      { s with membership := { s.membership with peers := s.membership.peers.set k { s.peer k with heard := true } } } := if_pos h

theorem State.handRecord_claim_of_not_keepsPeers {s : State} (h : ¬ s.station.keepsPeers = true) (k : Nat) (step : FrameStep)
    (m : Message) : s.handRecord .claim k (.intact step m) = s := if_neg h

theorem State.handRecord_claim_frame (s : State) (k : Nat) (step : FrameStep) (m : Message) :
    s.onlyChanges (s.handRecord .claim k (.intact step m)) [.membership] := by
  by_cases h : s.station.keepsPeers = true
  · rw [State.handRecord_claim_of_keepsPeers h]
    exact s.setMembership_frame _
  · rw [State.handRecord_claim_of_not_keepsPeers h]
    exact s.onlyChanges_refl _

/-- The heard flag, in the states that keep a peer table (R44). -/
theorem State.handRecord_claim_peer {s : State} {k : Nat} (h : s.station.keepsPeers = true) (hk : k < s.membership.peers.length)
    (step : FrameStep) (m : Message) : (s.handRecord .claim k (.intact step m)).peer k = { s.peer k with heard := true } ∧
    ∀ j, j ≠ k → (s.handRecord .claim k (.intact step m)).peer j = s.peer j := by
  rw [State.handRecord_claim_of_keepsPeers h]
  exact ⟨getD_set_self hk _ _, fun j hj => getD_set_ne _ (Ne.symm hj) _ _⟩

theorem State.handRecord_digest (s : State) (k : Nat) (step : FrameStep) (d : DigestMessage) :
    s.handRecord .digest k (.intact step (.digest d)) =
      { s with agree := { s.agree with store := s.agree.store.set k (some { digest := d.digest, step := step }) } } := rfl

/-- Of the records without a message none is handed over. -/
theorem State.handRecord_of_other {r : WindowRecord} (h : ∀ step m, r ≠ .intact step m) (s : State) (kind : WindowKind) (k : Nat) :
    s.handRecord kind k r = s := by
  cases r with
  | intact step m => exact absurd rfl (h step m)
  | _ => cases kind <;> rfl

/-! ### Windows in which the station only receives (R31, R32) -/

theorem exec_windowSettle_of_unhanded {s : State} {c : Settings} {kind : WindowKind} {k : Nat} {r : WindowRecord} {line : DatLine}
    (hc : s.cfg = some c) (hw : s.bus.window = some (kind, k)) (hr : s.settleRecord c kind k line = r)
    (hnone : ∀ step m, r ≠ .intact step m) : exec (.windowSettle line) s = .next (s.settled c kind k r) := by
  rw [exec_windowSettle hc hw hr, State.handRecord_of_other hnone, ite_self]

theorem completes_damaged {s : State} {c : Settings} {kind : WindowKind} {k : Nat} {line : DatLine} (hc : s.cfg = some c)
    (hw : s.bus.window = some (kind, k)) (honly : s.onlyReceives kind k) (hk : k < 16) (hclaim : s.bus.claimRecords.length = 16)
    (hdigest : s.bus.digestRecords.length = 16) (hd : readsDamaged kind k (c.bitTu * c.divider) line) :
    Completes (.windowSettle line) s (fun t => t.windowRecord kind k = .damaged ∧ t.counters = s.counters.add .damaged 1 ∧
      s.onlyChanges t [.timer, .bus, .engine, .counters]) := by
  have hr := (State.settleRecord_received c line honly).trans (classify_of_readsDamaged hd _ _)
  exact ⟨_, exec_windowSettle_of_unhanded hc hw hr (by nofun),
    BusInterface.write_record hk hclaim hdigest (s.settled_bus c kind k _), rfl,
    State.onlyChanges_mono (s.settled_frame c kind k _) (by decide)⟩

theorem completes_silent {s : State} {c : Settings} {kind : WindowKind} {k : Nat} {line : DatLine} (hc : s.cfg = some c)
    (hw : s.bus.window = some (kind, k)) (honly : s.onlyReceives kind k) (hk : k < 16) (hclaim : s.bus.claimRecords.length = 16)
    (hdigest : s.bus.digestRecords.length = 16) (hsilent : receive kind (c.bitTu * c.divider) line = .silent) :
    Completes (.windowSettle line) s (fun t => t.windowRecord kind k = .silent ∧ t.counters = s.counters ∧
      s.onlyChanges t [.timer, .bus, .engine]) := by
  have hr : s.settleRecord c kind k line = .silent := by
    rw [State.settleRecord_received c line honly, hsilent]
    rfl
  exact ⟨_, exec_windowSettle_of_unhanded hc hw hr (by nofun),
    BusInterface.write_record hk hclaim hdigest (s.settled_bus c kind k _), rfl,
    State.settled_frame_of_uncounted fun _ => rfl⟩

end Sys2Proof.Machine

namespace Sys2Proof.Proofs

open Sys2Proof.Machine

/-- Settles O30: the line is received as the message's bytes, which decode to it. -/
theorem peerDigestIsStored : Obligations.PeerDigestIsStored := by
  unfold Obligations.PeerDigestIsStored
  intro d line s c hc hw hk hme hbd hrecords hstore own bd hline
  have hr : s.settleRecord c .digest d.station line = .intact own (.digest d) := by
    rw [State.settleRecord_received c line (.inl hme), receive_digest hbd hline, classify_digest hk]
    rfl
  have hexec := (exec_windowSettle hc hw hr).trans (congrArg _ (if_neg hme))
  rw [State.handRecord_digest] at hexec
  have hframe := s.settled_frame c .digest d.station (.intact own (.digest d))
  have hbus := s.settled_bus c .digest d.station (.intact own (.digest d))
  obtain ⟨hmis, _, hdam⟩ := s.settled_mismatches c .digest d.station own (.digest d)
  generalize s.settled c .digest d.station (.intact own (.digest d)) = u at hexec hframe hbus hmis hdam
  have hagree : u.agree = s.agree := hframe .agree (by decide)
  rw [hagree] at hexec
  refine ⟨_, hexec, ?_, getD_set_self (by omega) _ _, fun k hne => getD_set_ne _ (Ne.symm hne) _ _, rfl, ?_, hmis, hdam,
    State.onlyChanges_comp hframe (State.setAgree_frame u _) (by decide)⟩
  · show u.bus.digestRecords.getD d.station .empty = _
    rw [hbus]
    exact getD_set_self (by omega) _ _
  · show u.bus.claimRecords = _
    rw [hbus]
    rfl

/-- Settles O29: the line is received as the announcement's bytes, which decode to it; its fingerprint tells INTACT from FOREIGN. -/
theorem peerAnnouncementIsReceived : Obligations.PeerAnnouncementIsReceived := by
  unfold Obligations.PeerAnnouncementIsReceived
  intro a line s c hc hw hme hrange hflags hbd hrecords hpeers own bd hline
  have hk : a.station < 16 := (a.inRange_iff.mp hrange).1
  have hread : s.settleRecord c .claim a.station line =
      if a.fingerprint = c.fingerprint then .intact own (.announcement a) else .foreign := by
    rw [State.settleRecord_received c line (.inl hme), receive_announcement hrange hbd hline, classify_announcement hrange hflags]
    rfl
  by_cases hfp : a.fingerprint = c.fingerprint
  · rw [if_pos hfp] at hread
    have hexec := (exec_windowSettle hc hw hread).trans (congrArg _ (if_neg hme))
    have hframe := s.settled_frame c .claim a.station (.intact own (.announcement a))
    have hbus := s.settled_bus c .claim a.station (.intact own (.announcement a))
    obtain ⟨hmis, hfor, hdam⟩ := s.settled_mismatches c .claim a.station own (.announcement a)
    generalize s.settled c .claim a.station (.intact own (.announcement a)) = u at hexec hframe hbus hmis hfor hdam
    have hmem : u.membership = s.membership := hframe .membership (by decide)
    have hst : u.station = s.station := congrArg Membership.station hmem
    have hhand := u.handRecord_claim_frame a.station own (.announcement a)
    have hpeer := fun hkeep => State.handRecord_claim_peer (s := u) (k := a.station) hkeep (by rw [hmem]; omega) own (.announcement a)
    have hstay := fun hkeep => State.handRecord_claim_of_not_keepsPeers (s := u) hkeep a.station own (.announcement a)
    generalize u.handRecord .claim a.station (.intact own (.announcement a)) = t at hexec hhand hpeer hstay
    have hcount : t.counters = u.counters := hhand .counters (by decide)
    obtain ⟨hself, hwin, hdig, hothers⟩ := BusInterface.write_claim (t := t) (by omega) ((hhand .bus (by decide)).trans hbus)
    rw [← hcount] at hmis hfor hdam
    refine ⟨t, hexec, fun _ => ⟨hself, hmis, hfor, fun hkeep => ?_, fun hout => ?_⟩, fun hne => absurd hfp hne, hdam, hwin, hdig,
      hothers, State.onlyChanges_comp hframe hhand (by decide)⟩
    · obtain ⟨hat, helse⟩ := hpeer (by rw [hst]; exact (StationState.keepsPeers_iff _).mpr hkeep)
      rw [hat, State.peer, hmem]
      refine ⟨rfl, fun k hne => ?_⟩
      rw [helse k hne, State.peer, hmem]
      rfl
    · rw [hstay (by rw [hst]; rcases hout with h | h <;> rw [h] <;> decide), hmem]
  · rw [if_neg hfp] at hread
    have hexec := (exec_windowSettle hc hw hread).trans (congrArg _ (if_neg hme))
    rw [State.handRecord_of_other (by nofun)] at hexec
    have hframe := s.settled_frame c .claim a.station .foreign
    obtain ⟨hself, hwin, hdig, hothers⟩ :=
      BusInterface.write_claim (by omega) (s.settled_bus c .claim a.station .foreign)
    exact ⟨_, hexec, fun h => absurd h hfp, fun _ => ⟨hself, hframe .membership (by decide), rfl⟩, rfl, hwin, hdig, hothers,
      State.onlyChanges_mono hframe (by decide)⟩

/-- Settles O28: the own outcome; what reception makes of every other line, by the start search, the chain of start edges and the
conditions on the bytes; and whole messages under the own number. -/
theorem otherWindowsSettle : Obligations.OtherWindowsSettle := by
  unfold Obligations.OtherWindowsSettle
  refine ⟨fun kind o line s c hc hw htx => ?_, fun kind k line s c hc hw hk honly hclaim hdigest => ?_,
    fun a line s c hc hw hown hout htx hrange hflags hbd hrecords => ?_,
    fun d line s c hc hw hown hout htx hbd hrecords => ?_⟩
  · have hr : s.settleRecord c kind s.me line = .own o := by
      rcases htx with htx | ⟨rfl, rfl, hst, htx⟩
      · exact State.settleRecord_own c line (by rw [htx]; exact if_pos rfl)
      · exact State.settleRecord_own_none c line (by rcases htx with htx | ⟨p, htx⟩ <;> rw [htx] <;> rfl) hst
    refine ⟨_, (exec_windowSettle hc hw hr).trans (congrArg _ (if_pos rfl)), ?_, ?_, s.settled_engineKept c _ _ _,
      State.settled_frame_of_uncounted fun _ => rfl⟩
    · rintro rfl
      exact s.settled_bus c _ _ _
    · rintro rfl
      exact s.settled_bus c _ _ _
  · intro bd settle record damaged
    have hdamaged : readsDamaged kind k bd line → damaged := completes_damaged hc hw honly hk hclaim hdigest
    refine ⟨fun hsilent => completes_silent hc hw honly hk hclaim hdigest (receive_silent kind hsilent), fun before e hedges => ?_⟩
    intro bytes stop hmost
    have hcount : bytes.length = before.length + 1 := by
      rw [List.length_map, List.length_append, List.length_singleton]
    have hlen (n : Nat) (hn : messageLength kind bytes = some n) : (before ++ [e]).length ≤ n := by
      rw [List.length_append, List.length_singleton, ← hcount]
      exact hmost n ((messageIs_iff kind bytes n).mpr hn)
    have hgot : before.map (sampledByte line bd) ++ [sampledByte line bd e] = bytes :=
      (List.map_append (l₁ := before) (l₂ := [e])).symm
    have hlast (h : ∀ fuel, receiveBytes kind line bd (settleBits kind * bd) fuel (before.map (sampledByte line bd)) e = .damaged) :
        damaged := hdamaged (readsDamaged_of_last hedges hlen h)
    refine ⟨fun h => hlast fun fuel => receiveBytes_of_start_high fuel _ h,
      fun h => hlast fun fuel => receiveBytes_of_stop_low fuel _ h,
      fun h => hlast fun fuel => receiveBytes_of_settled fuel _ h,
      fun hmore hf => hlast fun fuel => receiveBytes_of_no_next fuel (fun n hn => ?_) hf,
      fun hkind h4 h5 => ?_,
      fun hwhole hf => hlast fun fuel => receiveBytes_of_overrun fuel ?_ hf,
      fun hwhole hbad => hdamaged (readsDamaged_of_bytes hedges ?_ ?_)⟩
    · rw [hgot, ← messageIs_iff] at hn
      rw [List.length_map, ← hcount]
      exact hmore n hn
    · subst hkind
      have hmis : messageIs .claim bytes (10 + (byteAt bytes 3).toNat % 8) := ⟨h4, rfl⟩
      rcases receive_startEdges hedges hlen with ⟨hr, _⟩ | ⟨hle, _⟩
      · exact hdamaged (.inl hr)
      · have := hle _ ((messageIs_iff _ _ _).mp hmis)
        omega
    · rw [hgot, List.length_map, ← hcount]
      exact (messageIs_iff _ _ _).mp hwhole
    · rw [← hcount]
      exact (messageIs_iff _ _ _).mp hwhole
    · refine (bytesDamaged_iff _ _ _).mpr ?_
      cases kind <;> exact hbad
  · intro bd hline
    have hk : s.me < 16 := s.me_lt
    have hread : s.settleRecord c .claim s.me line =
        if a.fingerprint = c.fingerprint then .intact (stepOf s.timer.frame a.frame) (.announcement a) else .foreign := by
      rw [State.settleRecord_received c line (.inr (.inl ⟨hout, htx⟩)), receive_announcement hrange hbd hline, ← hown,
        classify_announcement hrange hflags]
    refine ⟨_, (exec_windowSettle hc hw hread).trans (congrArg _ (if_pos rfl)), fun hfp => ?_, fun hfp => ?_,
      s.settled_frame c _ _ _⟩
    · rw [if_pos hfp]
      refine ⟨(s.settled_counters_of_intact c _ _ _ _).trans (if_neg fun h => ?_),
        (BusInterface.write_claim (by omega) (s.settled_bus c _ _ _)).1⟩
      rw [← StationState.announces_iff, hout] at h
      exact Bool.noConfusion h.2
    · rw [if_neg hfp]
      exact ⟨rfl, (BusInterface.write_claim (by omega) (s.settled_bus c _ _ _)).1⟩
  · intro own bd hline
    have hk : s.me < 16 := s.me_lt
    have hread : s.settleRecord c .digest s.me line = .intact own (.digest d) := by
      rw [State.settleRecord_received c line (.inr (.inr ⟨rfl, hout, htx⟩)), receive_digest hbd hline, ← hown,
        classify_digest (by omega)]
      rfl
    have hcount := s.settled_counters_of_intact c .digest s.me own (.digest d)
    have hframe := s.settled_frame c .digest s.me (.intact own (.digest d))
    have hbus := s.settled_bus c .digest s.me (.intact own (.digest d))
    refine ⟨_, (exec_windowSettle hc hw hread).trans (congrArg _ (if_pos rfl)), ?_, ?_,
      congrArg Agreement.store (hframe .agree (by decide)), fun h => ?_, fun h => ?_, hframe⟩
    · rw [hbus]
      exact getD_set_self (by omega) _ _
    · rw [hbus]
      rfl
    · rw [hcount]
      exact if_pos ⟨h.1, h.2.imp_right .inr⟩
    · rw [hcount]
      refine if_neg fun ⟨hstep, hst⟩ => ?_
      rcases h with h | ⟨hj, hl⟩
      · rw [hstep] at h
        cases h
      · rcases hst with hst | hst | hst
        · exact hj hst
        · exact hout hst
        · exact hl hst

end Sys2Proof.Proofs
end

section
/-! The peer update at claim phase close (O33): what R45 does to one entry, and what the later steps leave of the table. -/

namespace Sys2Proof.Machine

/-! ### One entry (R45) -/

/-- Station `k` was heard in this frame with an announcement that says LEAVING. -/
def State.heardLeaving (s : State) (k : Nat) : Bool := (s.heardFrom k).any (·.2.leaving)

theorem State.heardLeaving_iff (s : State) (k : Nat) :
    s.heardLeaving k = true ↔ ∃ step a, s.heardFrom k = some (step, a) ∧ a.leaving = true := by
  simp only [State.heardLeaving, Option.any_eq_true, Prod.exists]

/-- A peer's entry takes its state and record from the table of R45, and its group from the announcement heard. -/
theorem State.updatedPeer_of_ne {s : State} {k : Nat} (hk : k ≠ s.me) : s.updatedPeer k =
    ({ s.peer k with
        state := ((s.peer k).state.update (s.heardFrom k).isSome (s.heardLeaving k)).1
        group := ((s.heardFrom k).map (·.2.group)).getD (s.peer k).group },
      ((s.peer k).state.update (s.heardFrom k).isSome (s.heardLeaving k)).2) := by
  rw [State.updatedPeer, if_neg hk, State.heardLeaving]
  cases s.heardFrom k <;> rfl

/-- The rows of R45 that offer a record. -/
theorem PeerState.update_record (p : PeerState) (heard leaving : Bool) (kind : EventKind) :
    (p.update heard leaving).2 = some kind ↔
      (kind = .peerJoined ∧ p = .joining2 ∧ heard = true ∧ leaving = false) ∨
      (kind = .peerLeft ∧ (heard = true ∧ leaving = true) ∧ (p = .member ∨ p = .missing1 ∨ p = .missing2)) ∨
      (kind = .peerLost ∧ p = .missing2 ∧ heard = false) := by
  cases p <;> cases heard <;> cases leaving <;> simp [PeerState.update, eq_comm]

/-- The record that the update of station `k` offers, by what was heard of it. -/
theorem State.updatedPeer_record (s : State) (k : Nat) (kind : EventKind) : (s.updatedPeer k).2 = some kind ↔
    k ≠ s.me ∧
      ((kind = .peerJoined ∧ (s.peer k).state = .joining2 ∧ s.heardFrom k ≠ none ∧ ¬ s.heardLeaving k = true) ∨
        (kind = .peerLeft ∧ s.heardLeaving k = true ∧
          ((s.peer k).state = .member ∨ (s.peer k).state = .missing1 ∨ (s.peer k).state = .missing2)) ∨
        (kind = .peerLost ∧ (s.peer k).state = .missing2 ∧ ¬ s.heardFrom k ≠ none)) := by
  by_cases hk : k = s.me
  · simp [hk, s.updatedPeer_me]
  · have hheard : (s.heardFrom k).isSome = true ∧ s.heardLeaving k = true ↔ s.heardLeaving k = true :=
      and_iff_right_of_imp fun h => by
        obtain ⟨step, a, h, -⟩ := (s.heardLeaving_iff k).mp h
        rw [h]
        rfl
    rw [State.updatedPeer_of_ne hk, PeerState.update_record, hheard, and_iff_right hk, Option.isSome_iff_ne_none,
      Option.isSome_eq_false_iff, Option.isNone_iff_eq_none, not_not, Bool.not_eq_true]

/-! ### The whole table (R45, R47) -/

/-- The record of a peer that joined, left or was lost in this frame. -/
def State.peerRecord (s : State) (k : Nat) (kind : EventKind) : EventRecord :=
  { kind := kind, frame := s.timer.frame, peer := some k }

/-- The records of the update, in ascending station order. -/
def State.peerRecords (s : State) : List EventRecord :=
  (List.range 16).filterMap fun k => (s.updatedPeer k).2.map (s.peerRecord k)

theorem State.updatePeers_events (s : State) : s.updatePeers.events = s.peerRecords.foldl EventQueue.offer s.events := rfl

/-- The records of the update, by what was heard of each peer. -/
theorem State.mem_peerRecords (s : State) (r : EventRecord) : r ∈ s.peerRecords ↔
    ∃ k, k < 16 ∧ k ≠ s.me ∧
      ((r = s.peerRecord k .peerJoined ∧ (s.peer k).state = .joining2 ∧ s.heardFrom k ≠ none ∧ ¬ s.heardLeaving k = true) ∨
        (r = s.peerRecord k .peerLeft ∧ s.heardLeaving k = true ∧
          ((s.peer k).state = .member ∨ (s.peer k).state = .missing1 ∨ (s.peer k).state = .missing2)) ∨
        (r = s.peerRecord k .peerLost ∧ (s.peer k).state = .missing2 ∧ ¬ s.heardFrom k ≠ none)) := by
  simp only [State.peerRecords, List.mem_filterMap, List.mem_range, Option.map_eq_some_iff, s.updatedPeer_record]
  refine exists_congr fun k => and_congr_right fun _ => ⟨?_, ?_⟩
  · rintro ⟨kind, ⟨hne, ⟨rfl, h⟩ | ⟨rfl, h⟩ | ⟨rfl, h⟩⟩, rfl⟩
    · exact ⟨hne, .inl ⟨rfl, h⟩⟩
    · exact ⟨hne, .inr (.inl ⟨rfl, h⟩)⟩
    · exact ⟨hne, .inr (.inr ⟨rfl, h⟩)⟩
  · rintro ⟨hne, ⟨rfl, h⟩ | ⟨rfl, h⟩ | ⟨rfl, h⟩⟩
    · exact ⟨_, ⟨hne, .inl ⟨rfl, h⟩⟩, rfl⟩
    · exact ⟨_, ⟨hne, .inr (.inl ⟨rfl, h⟩)⟩, rfl⟩
    · exact ⟨_, ⟨hne, .inr (.inr ⟨rfl, h⟩)⟩, rfl⟩

theorem State.peerRecords_ascending (s : State) : (s.peerRecords.filterMap (·.peer)).Pairwise (fun i j => i < j) := by
  rw [State.peerRecords, List.filterMap_filterMap]
  refine List.Pairwise.filterMap _ (fun i j hij i' hi' j' hj' => ?_) (List.pairwise_lt_range (n := 16))
  have hpeer {k x : Nat} (h : ((s.updatedPeer k).2.map (s.peerRecord k)).bind (·.peer) = some x) : k = x := by
    cases hu : (s.updatedPeer k).2 <;> rw [hu] at h <;> cases h
    rfl
  exact hpeer hi' ▸ hpeer hj' ▸ hij

/-! ### What the later steps leave of the table (R47) -/

/-- Between two states records have been offered, and the station became ISOLATED or kept its state and its peer table: what
steps 2 to 4 can do. -/
def State.keepsTable (s t : State) : Prop :=
  s.offersMore t ∧ (t.station = .isolated ∨ (t.station = s.station ∧ t.membership.peers = s.membership.peers))

theorem State.keepsTable_trans {s t u : State} (h : s.keepsTable t) (h' : t.keepsTable u) : s.keepsTable u := by
  obtain ⟨ho, h⟩ := h
  obtain ⟨ho', hi | ⟨hs', hp'⟩⟩ := h'
  · exact ⟨State.offersMore_trans ho ho', .inl hi⟩
  · refine ⟨State.offersMore_trans ho ho', h.imp hs'.trans fun ⟨hs, hp⟩ => ⟨hs'.trans hs, hp'.trans hp⟩⟩

theorem State.keepsTable_setMembership (s : State) {m : Membership} (hs : m.station = s.station)
    (hp : m.peers = s.membership.peers) : s.keepsTable (s.setMembership m) := ⟨State.offersMore_of_eq rfl, .inr ⟨hs, hp⟩⟩

theorem State.keepsTable_isolate (s : State) (m : Membership) (why : IsolationReason) :
    s.keepsTable ((s.setMembership m).enterIsolated why) :=
  ⟨State.offersMore_trans (t := s.setMembership m) (State.offersMore_of_eq rfl) (State.enterIsolated_offers _ why), .inl rfl⟩

theorem State.keepsTable_applyReference (s : State) : s.keepsTable s.applyReference.1 := by
  rcases s.applyReference_cases with h | ⟨f, h⟩ | ⟨f, r, h⟩ <;> rw [h]
  · exact s.keepsTable_setMembership (m := s.membership) rfl rfl
  · exact s.keepsTable_setMembership rfl rfl
  · exact ⟨⟨[r], rfl⟩, .inr ⟨rfl, rfl⟩⟩

theorem State.keepsTable_checkDuplicate (s : State) : s.keepsTable s.checkDuplicate := by
  rcases s.checkDuplicate_cases with ⟨-, h⟩ | ⟨n, -, ⟨-, h⟩ | ⟨-, h⟩⟩ <;> rw [h]
  · exact s.keepsTable_setMembership (m := s.membership) rfl rfl
  · exact s.keepsTable_setMembership rfl rfl
  · exact s.keepsTable_isolate _ _

theorem State.keepsTable_checkConfig (s : State) : s.keepsTable s.checkConfig := by
  rcases s.checkConfig_cases with h | ⟨-, n, h | h⟩ <;> rw [h]
  · exact s.keepsTable_setMembership (m := s.membership) rfl rfl
  · exact s.keepsTable_setMembership rfl rfl
  · exact s.keepsTable_isolate _ _

/-- Step 5 clears the table only where it ends JOINING in LISTENING. -/
theorem State.checkJoining_peers (s : State) :
    (s.station = .joining ∧ s.checkJoining.station = .listening) ∨
    ((s.station = .joining ∨ s.checkJoining.station = s.station) ∧ s.checkJoining.membership.peers = s.membership.peers) := by
  rcases s.checkJoining_cases with h | ⟨hj, n, h | ⟨r, h⟩ | ⟨m, h⟩⟩ <;> rw [h]
  · exact .inr ⟨.inr rfl, rfl⟩
  · exact .inr ⟨.inl hj, rfl⟩
  · exact .inl ⟨hj, rfl⟩
  · exact .inr ⟨.inl hj, rfl⟩

/-- The later steps offer their records after those of the update, and leave its table but where they clear it. -/
theorem State.membershipClose_table {s : State} (hk : s.station.keepsPeers = true) :
    s.updatePeers.offersMore s.membershipClose.1 ∧
    (s.membershipClose.1.station.clearsPeers = false → (s.station = .joining → s.membershipClose.1.station ≠ .listening) →
      s.membershipClose.1.membership.peers = s.updatePeers.membership.peers) := by
  rw [State.membershipClose_of_keepsPeers hk]
  obtain ⟨ho, hx⟩ := State.keepsTable_trans s.updatePeers.keepsTable_applyReference
    (State.keepsTable_trans (State.keepsTable_checkDuplicate _) (State.keepsTable_checkConfig _))
  obtain ⟨-, -, -, ho'⟩ := s.referred.checkDuplicate.checkConfig.checkJoining_outcome
  refine ⟨State.offersMore_trans ho ho'.offersMore, fun hclear hlisten => ?_⟩
  rcases s.referred.checkDuplicate.checkConfig.checkJoining_peers with ⟨hj, hl⟩ | ⟨hs, hp⟩
  · rcases hx with hi | ⟨hst, -⟩
    · exact absurd (hj.symm.trans hi) (by decide)
    · exact absurd hl (hlisten (hst.symm.trans hj))
  · rcases hx with hi | ⟨-, hp'⟩
    · rcases hs with hj | hs
      · exact absurd (hj.symm.trans hi) (by decide)
      · rw [hs.trans hi] at hclear
        cases hclear
    · exact hp.trans hp'

end Sys2Proof.Machine

namespace Sys2Proof.Proofs

open Sys2Proof.Machine

/-- Settles O33: the records and the entries are those of the update of each peer; the later steps of the close offer their
records behind them and leave the table unless they clear it. -/
theorem peerUpdate : Obligations.PeerUpdate := by
  unfold Obligations.PeerUpdate
  intro s c h hs heard leaving
  refine .of_eq (exec_claimPhaseClose_of_awaits h) ?_
  have hkeeps : (s.reach c c.placeClaimClose c.claimClose).station.keepsPeers = true := (StationState.keepsPeers_iff _).mpr hs
  obtain ⟨⟨rs, hrs⟩, hpeers⟩ := State.membershipClose_table hkeeps
  rw [State.updatePeers_events] at hrs
  refine ⟨⟨s.peerRecords, rs, hrs, s.peerRecords_ascending, fun r => (s.mem_peerRecords r).trans ?_⟩,
    fun hclear hlisten k hk hne => ?_⟩
  · simp only [s.heardLeaving_iff]
    rfl
  · have htable : ((s.reach c c.placeClaimClose c.claimClose).closeClaims c).membership.peers =
        (List.range 16).map fun k => (s.updatedPeer k).1 := hpeers hclear hlisten
    have hpeer : ((s.reach c c.placeClaimClose c.claimClose).closeClaims c).peer k = (s.updatedPeer k).1 := by
      simp [State.peer, htable, hk]
    rw [hpeer, State.updatedPeer_of_ne hne, State.heardLeaving]
    cases hh : s.heardFrom k with
    | none => exact ⟨by cases (s.peer k).state <;> rfl, rfl⟩
    | some p =>
      obtain ⟨step, a⟩ := p
      refine ⟨?_, rfl⟩
      show ((s.peer k).state.update true a.leaving).1 = _
      cases hl : a.leaving <;> cases (s.peer k).state <;> simp [PeerState.update, hl]

end Sys2Proof.Proofs
end
